-- ==== Sys2Proof/Word.lean ====
section
/-! DEFINITION. The byte of the host link and of the aisle pair, the levels that carry it, and the part's instants. -/

namespace Sys2Proof

/-- One byte as it stands on the host link or on an aisle pair (R162, R111). -/
abbrev Byte := BitVec 8

/-- A point in the part's millisecond time, compared as a plain number (00_scope.md section 5, R174). -/
abbrev Instant := Nat

/-- Levels of the host's two lines of the link while LCS is low, true for high; a list of them is a waveform, with one entry for
each change or more (R162). -/
structure LinkPins where
  lck : Bool
  ldi : Bool
  deriving DecidableEq, Repr

/-- A byte as it is received from an aisle pair: its eight data bits, and whether its stop bit is correct (R111). -/
structure PairByte where
  data : Byte
  stop : Bool
  deriving DecidableEq, Repr

end Sys2Proof
end

