-- ==== Sys2Proof/Config.lean ====
section
/-! DEFINITION. The values the spec leaves open: constants without a body, so that no proof can rest on one. -/

namespace Sys2Proof

/-- Whether the SILENT notice joins before the REFILL_AMBIGUOUS notice when the end of one sweep queues both
(R118, R121 and R151 give no order). Free value, assumption 8. -/
opaque Config.silentBeforeAmbiguous : Bool

/-- Whether a token map entry whose issue instant equals that of the next entry counts as issued before it
(R72 condition 3 compares instants of whole milliseconds). Free value, assumption 9. -/
opaque Config.equalIssueIsBefore : Bool

/-- The level of the line xENR of a bus in the state with this code (R176), for the states in which the spec
gives the line no level: UNPOWERED, RESETTING and BROWNOUT. Free value, assumption 10. -/
opaque Config.enrLevel (busStateCode : Nat) : Bool

end Sys2Proof
end

