-- ==== Sys2Proof/Syntax.lean ====
section
/-! DEFINITION. The commands of the part: one constructor per row of spec/opcode_table.json. -/

namespace Sys2Proof

/-- The commands. Request rows carry the fields of R178 as the numbers their bytes spell, so a value that a
request may not take is still a command, which its rule refuses. Rows of the aisle pair and of the supply name
one of the four buses. -/
inductive Instr where
  /-- Power is applied (R174). -/
  | powerOnReset
  /-- RSTN falls (R174). -/
  | rstnReset
  /-- A power-on or RSTN reset is released (R174). -/
  | resetRelease
  /-- MS0/DARK and MS1/LAMPTEST take these levels, true for high (R47). -/
  | darkLamptestChange (dark lamptest : Bool)
  /-- LCS falls (R162, R164). -/
  | lcsFall
  /-- Byte 0 has been clocked in full in both directions; `wave` are the levels of LCK and LDI from the fall of LCS to its eighth
  rising edge of LCK (R162, R163; assumption 6). -/
  | statusByteComplete (wave : List LinkPins)
  /-- LCS rises; `wave` are the levels of LCK and LDI since byte 0 was clocked in full (R162, R165, R166; assumption 6). -/
  | lcsRise (wave : List LinkPins)
  /-- A taken request whose kind is not recognised (R168). -/
  | unknownRequest (kind : Nat)
  | partStatus
  | resetPart
  | setClass (cls priority : Nat)
  | setMask (level : Nat)
  | setTiming (cycle minDwell guard hold linger : Nat)
  | setSweep (bus period : Nat)
  | setFeed (bus capacity mode : Nat)
  | enrol (bus : Nat)
  | resetBus (bus : Nat)
  | queryBus (bus : Nat)
  | queryLocation (bus node : Nat)
  | directSet (bus node colour char0 char1 char2 blink : Nat)
  | directEnd (bus node : Nat)
  | openSession (slot colour priority : Nat)
  | grant (slot bus first last : Nat)
  | revoke (slot index : Nat)
  | setPriority (slot priority : Nat)
  | suspend (slot : Nat)
  | resume (slot : Nat)
  | closeSession (slot : Nat)
  | querySession (slot : Nat)
  /-- `pred` 0 means that no predecessor is given (R176, R178). -/
  | postTask (id slot bus node requested shortMode pred : Nat)
  | amendTask (id requested : Nat)
  | withdrawTask (id cascade : Nat)
  | queryTask (id : Nat)
  /-- The scheduled start of a sweep comes (R114). -/
  | sweepStart (bus : Fin 4)
  /-- Bytes answer a LAMP frame; the model checks whether they are a good KEYS answer, stop bits and CRC included (R111, R116). -/
  | keysAnswer (bus : Fin 4) (frame : List PairByte)
  | keysWindowExpiry (bus : Fin 4)
  | identifyReply (bus : Fin 4) (frame : List PairByte)
  | identifyWindowExpiry (bus : Fin 4)
  | hereAnswer (bus : Fin 4) (frame : List PairByte)
  | hereWindowExpiry (bus : Fin 4)
  /-- The 50 ms of ENR low end (R92). -/
  | enrLowEnd (bus : Fin 4)
  | takenAnswer (bus : Fin 4) (frame : List PairByte)
  | takenWindowExpiry (bus : Fin 4)
  /-- The 200 ms after the feed closed end (R109). -/
  | enrolWaitEnd (bus : Fin 4)
  /-- The 500 ms of RESETTING end (R128). -/
  | resettingEnd (bus : Fin 4)
  /-- A feed sample becomes due (R133). -/
  | sampleStart (bus : Fin 4)
  /-- A feed sample completes; `supply` is the supply it measured, in millivolts (R131, R132). -/
  | sampleComplete (bus : Fin 4) (supply : Nat)
  /-- The phase expiry comes (R147). -/
  | phaseFlip (bus : Fin 4)
  deriving DecidableEq, Repr

end Sys2Proof
end

