-- ==== Sys2Proof/Machine/State.lean ====
section
/-! DEFINITION. Every piece of state the spec gives the part, as plain data, and the state right after reset. -/

namespace Sys2Proof.Machine

/-! ### Enumerations of R176 and of the owning rules -/

/-- Lamp colours (R1); a lamp without colour is `none` of `Option Colour`. -/
inductive Colour where
  | red | green | blue | yellow | cyan | magenta | white
  deriving DecidableEq, Repr

inductive Blink where
  | steady | slow
  deriving DecidableEq, Repr

/-- One character position of a display (R176). -/
inductive Glyph where
  | digit (d : Fin 10)
  | blank
  | dash
  deriving DecidableEq, Repr

/-- Three characters, left to right. -/
structure Chars where
  left : Glyph
  mid : Glyph
  right : Glyph
  deriving DecidableEq, Repr

/-- A lamp and display picture: planned content (R42) and direct pattern (R62). -/
structure Face where
  colour : Option Colour
  chars : Chars
  blink : Blink
  deriving DecidableEq, Repr

inductive SessionState where
  | free | active | suspended
  deriving DecidableEq, Repr

/-- States of a task record in use (R20); a FREE record is not listed. -/
inductive TaskState where
  | waiting | opened | closed
  deriving DecidableEq, Repr

inductive TaskOutcome where
  | done | short
  deriving DecidableEq, Repr

inductive ShortMode where
  | close | keep
  deriving DecidableEq, Repr

/-- Presence states (R89). -/
inductive Presence where
  | absent | present | suspect | lost | mismatch
  deriving DecidableEq, Repr

inductive ModuleKind where
  | button | display
  deriving DecidableEq, Repr

/-- Causes of a LOCATION notice (R94, R98, R117). -/
inductive Cause where
  | new | returned | replaced | mismatch | lost | absent
  deriving DecidableEq, Repr

inductive Key where
  | confirm | minus | plus
  deriving DecidableEq, Repr

inductive PressOutcome where
  | stray | late | stale | superseded | direct
  deriving DecidableEq, Repr

inductive BusState where
  | off | unpowered | resetting | enrolling | service | brownout
  deriving DecidableEq, Repr

inductive BusEvent where
  | enrolDone | chainTooLong | silent | speaking | refillAmbiguous
  deriving DecidableEq, Repr

inductive SupplyEvent where
  | band | brownout | recovered | overload | overloadEnd
  deriving DecidableEq, Repr

inductive SamplingMode where
  | off | periodic | continuous
  deriving DecidableEq, Repr

inductive GovernorMode where
  | none | steady | alternate
  deriving DecidableEq, Repr

/-- The fate of a request (R165). -/
inductive LinkOutcome where
  | none | taken | notReady | short
  deriving DecidableEq, Repr

/-- Notice classes (R149). -/
inductive NoticeClass where
  | confirm | press | location | bus | supply | session
  deriving DecidableEq, Repr

/-- Result codes of an answer (R168). -/
inductive Reason where
  | ok | badKind | badLength | badField | noSession | sessionState | notPermitted | colourClash | grantsFull
  | tasksPresent | noLocation | locationState | taskExists | noTask | taskState | chainTaken | storeFull | listFull
  | busState | busy
  deriving DecidableEq, Repr

/-! ### Locations, sessions, tasks -/

/-- A location: its bus, and its node address less one (00_scope.md section 4; R88). -/
structure Loc where
  bus : Fin 4
  idx : Fin 62
  deriving DecidableEq, Repr

/-- The node address, 1 to 62. -/
def Loc.node (l : Loc) : Nat := l.idx.val + 1

/-- A grant range (R1). -/
structure Range where
  bus : Fin 4
  first : Nat
  last : Nat
  deriving DecidableEq, Repr

/-- A held confirmation (R12). -/
structure PendingEntry where
  task : Nat
  offered : Nat
  press : Instant
  deriving DecidableEq, Repr

/-- A session record (R1). -/
structure Session where
  state : SessionState
  colour : Option Colour
  priority : Option Nat
  ranges : List Range
  pending : List PendingEntry
  deriving DecidableEq, Repr

/-- A slot right after reset (R2). -/
def Session.initial : Session :=
  { state := .free, colour := none, priority := none, ranges := [], pending := [] }

/-- A task record in use (R21). `closure` is the reference by which a TASK_CLOSED notice names the closure it
reports (R40, R151). -/
structure Task where
  id : Nat
  slot : Fin 8
  loc : Loc
  requested : Nat
  picked : Nat
  offered : Nat
  shortMode : ShortMode
  state : TaskState
  outcome : Option TaskOutcome
  pred : Option Nat
  succ : Option Nat
  amended : Option Instant
  closure : Option Nat
  deriving DecidableEq, Repr

/-- Remaining is derived (R21). -/
def Task.remaining (t : Task) : Nat := t.requested - t.picked

/-- A task as the scheduler shows it: id and session slot (R42, R59). -/
structure Shown where
  task : Nat
  slot : Fin 8
  deriving DecidableEq, Repr

/-- What a display content means: its content kind, with the shown task where the kind has one (R42, R59). -/
inductive Meaning where
  | task (x : Shown)
  | linger (x : Shown)
  | idle
  | blanked
  | direct
  deriving DecidableEq, Repr

/-- A token map entry (R59). -/
structure TokenEntry where
  meaning : Meaning
  issued : Instant
  deriving DecidableEq, Repr

/-- A hold (R42, R50). -/
structure Hold where
  task : Nat
  expiry : Instant
  deriving DecidableEq, Repr

/-- A linger (R42, R49). -/
structure Linger where
  task : Nat
  slot : Fin 8
  expiry : Instant
  deriving DecidableEq, Repr

/-- Three blank characters. -/
def Chars.blank : Chars := { left := .blank, mid := .blank, right := .blank }

/-- Lamp off, characters blank, STEADY. -/
def Face.dark : Face := { colour := none, chars := Chars.blank, blink := .steady }

/-- The rotation state of a location (R42). `meaning` holds the content kind together with the shown task, which
R42 gives exactly to the kinds TASK and LINGER. -/
structure Rotation where
  token : Fin 8
  map : Vector (Option TokenEntry) 8
  meaning : Option Meaning
  face : Face
  slotStart : Option Instant
  dwell : Option Instant
  position : Option (Fin 8)
  hold : Option Hold
  linger : Option Linger
  direct : Option Face
  fresh : Bool
  deriving DecidableEq, Repr

/-- The condition of R43. -/
def Rotation.initial : Rotation :=
  { token := 0, map := Vector.replicate 8 none, meaning := none, face := Face.dark, slotStart := none, dwell := none,
    position := none, hold := none, linger := none, direct := none, fresh := true }

/-- A location record (R88). -/
structure Location where
  state : Presence
  kind : Option ModuleKind
  serial : Option (BitVec 32)
  miss : Nat
  ack : Bool
  tasks : List Nat
  rot : Rotation
  deriving DecidableEq, Repr

/-- The condition of R90. -/
def Location.initial : Location :=
  { state := .absent, kind := none, serial := none, miss := 0, ack := true, tasks := [], rot := Rotation.initial }

/-- The timing settings (R61). -/
structure Timing where
  cycle : Nat
  minDwell : Nat
  guard : Nat
  hold : Nat
  linger : Nat
  deriving DecidableEq, Repr

/-- The defaults of R61. -/
def Timing.initial : Timing := { cycle := 2000, minDwell := 400, guard := 240, hold := 4000, linger := 600 }

/-! ### Aisle buses, feeds, governors -/

/-- The frames the part sends on an aisle pair (R179). -/
inductive AisleFrame where
  | lamp (address : Nat) (face : Face) (scale : Nat) (alternate phase ack : Bool) (token : Fin 8)
  | identify (address : Nat)
  | release
  | take (address : Nat)
  | look (pred : Nat)
  deriving DecidableEq, Repr

/-- The exchange in progress on a bus: the frame that has been sent and whose answer is awaited. `second` marks
the second attempt (R93, R97, R116, R119, R120). -/
inductive Exchange where
  | none
  | visit (idx : Fin 62) (second : Bool)
  | poll (idx : Fin 62)
  | probeLook (idx : Fin 62)
  | probeTake (idx : Fin 62) (second : Bool)
  | walkTake (idx : Fin 62) (second : Bool)
  | walkLook
  deriving DecidableEq, Repr

/-- A bus controller (R106), with the state of the sweep, walk or wait in progress that R91 to R128 imply and the
frames it last put on the pair. -/
structure Bus where
  state : BusState
  period : Nat
  counter : Nat
  scheduled : Option Instant
  lastDuration : Nat
  silent : Bool
  ambiguous : Bool
  phase : Bool
  exchange : Exchange
  resettingEnd : Option Instant
  waitEnd : Option Instant
  enrLowEnd : Option Instant
  sweepStart : Instant
  sweepVisited : Bool
  sweepGood : Bool
  sent : List AisleFrame
  deriving DecidableEq, Repr

/-- The condition of R106 with the given bus state. -/
def Bus.initial (state : BusState) : Bus :=
  { state := state, period := 60, counter := 0, scheduled := none, lastDuration := 0, silent := false,
    ambiguous := false, phase := false, exchange := .none, resettingEnd := none, waitEnd := none, enrLowEnd := none,
    sweepStart := 0, sweepVisited := false, sweepGood := false, sent := [] }

/-- A feed monitor (R130), with the starts of the running and of the last completed sample (R132, R133). -/
structure Feed where
  mode : SamplingMode
  level : Nat
  zeroRun : Nat
  escalated : Bool
  busy : Bool
  brownout : Bool
  next : Option Instant
  switchClosed : Bool
  runStart : Option Instant
  lastStart : Option Instant
  deriving DecidableEq, Repr

/-- The condition of R130 with the given instant for the next sample. -/
def Feed.initial (next : Option Instant) : Feed :=
  { mode := .periodic, level := 0, zeroRun := 0, escalated := false, busy := false, brownout := false, next := next,
    switchClosed := false, runStart := none, lastStart := none }

/-- A load governor (R142); `capacity` in mA. -/
structure Governor where
  capacity : Nat
  mode : GovernorMode
  scale : Nat
  overload : Bool
  phaseExpiry : Option Instant
  deriving DecidableEq, Repr

/-- The condition of R142. -/
def Governor.initial : Governor :=
  { capacity := 2000, mode := .none, scale := 0, overload := false, phaseExpiry := none }

/-! ### Notices -/

/-- Notices with their fields (R159). -/
inductive Notice where
  | taskClosed (task : Nat) (slot : Fin 8) (loc : Loc) (outcome : TaskOutcome) (requested picked : Nat)
  | taskPartial (task : Nat) (slot : Fin 8) (loc : Loc) (picked remaining : Nat)
  | press (loc : Loc) (key : Key) (outcome : PressOutcome) (task : Option Nat) (slot : Option (Fin 8))
  | location (loc : Loc) (state : Presence) (cause : Cause) (kind : Option ModuleKind) (serial : Option (BitVec 32))
  | bus (bus : Fin 4) (event : BusEvent) (count : Option Nat)
  | supply (bus : Fin 4) (event : SupplyEvent) (level : Nat) (lost : Option Nat)
  | session (slot : Fin 8) (task : Nat)
  deriving DecidableEq, Repr

/-- An entry of the report queue (R151). `age` is its place in the order in which entries joined. -/
structure Entry where
  notice : Notice
  priority : Nat
  stamp : Nat
  age : Nat
  closure : Option Nat
  deriving DecidableEq, Repr

/-- The class priority table (R149). -/
structure ClassTable where
  confirm : Nat
  press : Nat
  location : Nat
  bus : Nat
  supply : Nat
  session : Nat
  deriving DecidableEq, Repr

/-- The default priorities of R149. -/
def ClassTable.initial : ClassTable :=
  { confirm := 3, press := 2, location := 2, bus := 3, supply := 3, session := 1 }

/-- The notice queue (chapter 8). `transmitting` is the age of the entry in transmission (R157). -/
structure NoticeQueue where
  classes : ClassTable
  mask : Nat
  entries : List Entry
  lost : Bool
  transmitting : Option Nat
  nextAge : Nat
  deriving DecidableEq, Repr

/-- The condition of R149, R154, R158. -/
def NoticeQueue.initial : NoticeQueue :=
  { classes := ClassTable.initial, mask := 0, entries := [], lost := false, transmitting := none, nextAge := 0 }

/-! ### Link port -/

/-- A field of an answer or notice with its type (R176). -/
inductive Field where
  | u8 (n : Nat)
  | u16 (n : Nat)
  | u32 (n : BitVec 32)
  deriving DecidableEq, Repr

/-- An answer (R168): its kind byte, its result and the fields after the result. -/
structure Answer where
  kind : Nat
  result : Reason
  fields : List Field
  deriving DecidableEq, Repr

/-- The outbound record of a transaction (R161, R164). -/
inductive Outbound where
  | empty
  | answer (a : Answer)
  | notice (e : Entry)
  deriving DecidableEq, Repr

/-- The link port (R161). A transaction is in progress exactly while `outbound` is present. -/
structure Link where
  request : List Byte
  replies : List Answer
  lastOutcome : LinkOutcome
  readySample : Bool
  outbound : Option Outbound
  status : Byte
  shown : Bool
  deriving DecidableEq, Repr

/-- The condition of R161. -/
def Link.initial : Link :=
  { request := [], replies := [], lastOutcome := .none, readySample := false, outbound := none, status := 0,
    shown := false }

/-! ### The machine -/

/-- The part's state. Levels are true for high. `pending` is the queue of commands that wait. -/
structure State where
  pending : List Instr
  held : Bool
  now : Instant
  ms0 : Bool
  ms1 : Bool
  strapMs0 : Bool
  strapMs1 : Bool
  lcs : Bool
  link : Link
  sessions : Vector Session 8
  tasks : List Task
  closures : Nat
  locs : Vector (Vector Location 62) 4
  timing : Timing
  buses : Vector Bus 4
  feeds : Vector Feed 4
  governors : Vector Governor 4
  notices : NoticeQueue
  deriving DecidableEq, Repr

/-- Reasons to stop with a fault. There are none: the spec gives every command an effect in every state. Nobody
raises one; safe. -/
inductive Fault where
  deriving DecidableEq, Repr

/-- Reasons to refuse a command. -/
inductive Refusal where
  /-- Raised by `exec` for a command that has no meaning yet; safe. No arm of `exec` raises it now. -/
  | notModelled (mnemonic : String)
  deriving DecidableEq, Repr

/-- The state right after the release of a power-on reset with both strap lines and LCS high (R2, R23, R43, R61, R90,
R106, R107, R130, R142, R158, R161, R174). The levels of the three input lines are assumption 4. -/
def State.reset : State :=
  { pending := [], held := false, now := 0, ms0 := true, ms1 := true, strapMs0 := true, strapMs1 := true, lcs := true,
    link := Link.initial,
    sessions := Vector.replicate 8 Session.initial,
    tasks := [], closures := 0,
    locs := Vector.replicate 4 (Vector.replicate 62 Location.initial),
    timing := Timing.initial,
    buses := Vector.replicate 4 (Bus.initial .unpowered),
    feeds := Vector.replicate 4 (Feed.initial (some 0)),
    governors := Vector.replicate 4 Governor.initial,
    notices := NoticeQueue.initial }

end Sys2Proof.Machine
end

