-- ==== Sys2Proof/Machine/Operands.lean ====
section
/-! DEFINITION. Operand forms: the codes of R176 and R168 in both directions, request fields read as locations,
slots and enumerations, and the answer fields of R176. -/

namespace Sys2Proof.Machine

/-! ### Codes of R176 -/

def Colour.code : Colour → Nat
  | .red => 1 | .green => 2 | .blue => 3 | .yellow => 4 | .cyan => 5 | .magenta => 6 | .white => 7

def Colour.ofCode : Nat → Option Colour
  | 1 => some .red | 2 => some .green | 3 => some .blue | 4 => some .yellow | 5 => some .cyan
  | 6 => some .magenta | 7 => some .white | _ => none

/-- The code of a lamp colour, 0 for none. -/
def lampCode (c : Option Colour) : Nat := (c.map Colour.code).getD 0

/-- The channels of a lamp, true for lit (R176). -/
structure Channels where
  red : Bool
  green : Bool
  blue : Bool
  deriving DecidableEq, Repr

/-- The lamp channels that a colour lights (R176). -/
def Colour.lights : Colour → Channels
  | .red => { red := true, green := false, blue := false }
  | .green => { red := false, green := true, blue := false }
  | .blue => { red := false, green := false, blue := true }
  | .yellow => { red := true, green := true, blue := false }
  | .cyan => { red := false, green := true, blue := true }
  | .magenta => { red := true, green := false, blue := true }
  | .white => { red := true, green := true, blue := true }

/-- The number of lamp channels that a colour lights (R143). -/
def Colour.channels (c : Colour) : Nat := c.lights.red.toNat + c.lights.green.toNat + c.lights.blue.toNat

def Blink.code : Blink → Nat
  | .steady => 0 | .slow => 1

def Blink.ofCode : Nat → Option Blink
  | 0 => some .steady | 1 => some .slow | _ => none

def Glyph.code : Glyph → Nat
  | .digit d => d.val | .blank => 0x0A | .dash => 0x0B

def Glyph.ofCode (n : Nat) : Option Glyph :=
  if h : n < 10 then some (.digit ⟨n, h⟩) else if n = 0x0A then some .blank else if n = 0x0B then some .dash else none

def SessionState.code : SessionState → Nat
  | .free => 0 | .active => 1 | .suspended => 2

def TaskState.code : TaskState → Nat
  | .waiting => 1 | .opened => 2 | .closed => 3

def TaskOutcome.code : TaskOutcome → Nat
  | .done => 0 | .short => 1

def ShortMode.code : ShortMode → Nat
  | .close => 0 | .keep => 1

def ShortMode.ofCode : Nat → Option ShortMode
  | 0 => some .close | 1 => some .keep | _ => none

def Presence.code : Presence → Nat
  | .absent => 0 | .present => 1 | .suspect => 2 | .lost => 3 | .mismatch => 4

def ModuleKind.code : ModuleKind → Nat
  | .button => 1 | .display => 2

def ModuleKind.ofCode : Nat → Option ModuleKind
  | 1 => some .button | 2 => some .display | _ => none

def Cause.code : Cause → Nat
  | .new => 0 | .returned => 1 | .replaced => 2 | .mismatch => 3 | .lost => 4 | .absent => 5

/-- The code of a content kind (R176). -/
def Meaning.code : Meaning → Nat
  | .task _ => 0 | .linger _ => 1 | .idle => 2 | .blanked => 3 | .direct => 4

def Key.code : Key → Nat
  | .confirm => 1 | .minus => 2 | .plus => 3

def Key.ofCode : Nat → Option Key
  | 1 => some .confirm | 2 => some .minus | 3 => some .plus | _ => none

def PressOutcome.code : PressOutcome → Nat
  | .stray => 0 | .late => 1 | .stale => 2 | .superseded => 3 | .direct => 4

def BusState.code : BusState → Nat
  | .off => 0 | .unpowered => 1 | .resetting => 2 | .enrolling => 3 | .service => 4 | .brownout => 5

def BusEvent.code : BusEvent → Nat
  | .enrolDone => 0 | .chainTooLong => 1 | .silent => 2 | .speaking => 3 | .refillAmbiguous => 4

def SupplyEvent.code : SupplyEvent → Nat
  | .band => 0 | .brownout => 1 | .recovered => 2 | .overload => 3 | .overloadEnd => 4

def SamplingMode.code : SamplingMode → Nat
  | .off => 0 | .periodic => 1 | .continuous => 2

def SamplingMode.ofCode : Nat → Option SamplingMode
  | 0 => some .off | 1 => some .periodic | 2 => some .continuous | _ => none

def GovernorMode.code : GovernorMode → Nat
  | .none => 0 | .steady => 1 | .alternate => 2

/-- The LAST field of the status byte (R177). -/
def LinkOutcome.code : LinkOutcome → Nat
  | .none => 0 | .taken => 1 | .notReady => 2 | .short => 3

/-- Class numbers of R149. -/
def NoticeClass.ofCode : Nat → Option NoticeClass
  | 0 => some .confirm | 1 => some .press | 2 => some .location | 3 => some .bus | 4 => some .supply
  | 5 => some .session | _ => none

/-- Result codes of R168. -/
def Reason.code : Reason → Nat
  | .ok => 0 | .badKind => 1 | .badLength => 2 | .badField => 3 | .noSession => 4 | .sessionState => 5
  | .notPermitted => 6 | .colourClash => 7 | .grantsFull => 8 | .tasksPresent => 9 | .noLocation => 10
  | .locationState => 11 | .taskExists => 12 | .noTask => 13 | .taskState => 14 | .chainTaken => 15
  | .storeFull => 16 | .listFull => 17 | .busState => 18 | .busy => 19

/-! ### Request fields as slots, buses and locations -/

/-- A slot number 0 to 7 (R3). -/
def slotOf (n : Nat) : Option (Fin 8) := if h : n < 8 then some ⟨n, h⟩ else none

/-- A bus number 0 to 3. -/
def busOf (n : Nat) : Option (Fin 4) := if h : n < 4 then some ⟨n, h⟩ else none

/-- The index of a node address 1 to 62. -/
def idxOf (n : Nat) : Option (Fin 62) :=
  if h : n - 1 < 62 then if n = 0 then none else some ⟨n - 1, h⟩ else none

/-- The number of buses that the latched strap puts in service (R107). -/
def State.busesInService (s : State) : Nat := 1 + s.strapMs0.toNat + 2 * s.strapMs1.toNat

/-- A bus is in service when the latched strap selects it (R6, R107). -/
def State.inService (s : State) (b : Fin 4) : Bool := b.val < s.busesInService

/-- A bus number that names a bus in service. -/
def State.serviceBus (s : State) (n : Nat) : Option (Fin 4) :=
  (busOf n).filter fun b => s.inService b

/-- A location whose bus is in service and whose node is 1 to 62; none is answered NO_LOCATION (R27, R62, R102). -/
def State.locOf (s : State) (bus node : Nat) : Option Loc :=
  match s.serviceBus bus, idxOf node with
  | some b, some i => some { bus := b, idx := i }
  | _, _ => none

/-- A number clamped to a range (00_scope.md section 5). -/
def clamp (lo hi n : Nat) : Nat := max lo (min hi n)

/-! ### Answer fields -/

/-- An instant as it leaves the part: a 16-bit time stamp (R176). -/
def stampField (t : Instant) : Field := .u16 (t % 65536)

def flagField (b : Bool) : Field := .u8 b.toNat

/-- An optional field or group of an answer or notice: a presence byte, then the fields if present (R176). -/
def optFields {α : Type} (o : Option α) (f : α → List Field) : List Field :=
  match o with
  | none => [.u8 0]
  | some a => .u8 1 :: f a

/-- A location as two bytes: bus, then node (R176). -/
def locFields (l : Loc) : List Field := [.u8 l.bus.val, .u8 l.node]

/-- Three character codes, left to right (R176). -/
def charFields (c : Chars) : List Field := [.u8 c.left.code, .u8 c.mid.code, .u8 c.right.code]

/-- Colour, three characters, blink: the content and direct pattern fields of R102. -/
def faceFields (f : Face) : List Field := .u8 (lampCode f.colour) :: charFields f.chars ++ [.u8 f.blink.code]

end Sys2Proof.Machine
end

