-- ==== Sys2Proof/Machine/Ops.lean ====
section
/-! DEFINITION. The shared operations over the records: reading and writing one record, queueing a notice, the task
lists, closure and release, holds and lingers, the frames put on a pair. -/

namespace Sys2Proof.Machine

/-! ### One record -/

def State.session (s : State) (i : Fin 8) : Session := s.sessions[i.val]

def State.setSession (s : State) (i : Fin 8) (x : Session) : State := { s with sessions := s.sessions.set i.val x }

/-- The location record (R88). -/
def State.loc (s : State) (l : Loc) : Location := (s.locs[l.bus.val])[l.idx.val]

def State.setLoc (s : State) (l : Loc) (x : Location) : State :=
  { s with locs := s.locs.set l.bus.val ((s.locs[l.bus.val]).set l.idx.val x) }

def State.modLoc (s : State) (l : Loc) (f : Location → Location) : State := s.setLoc l (f (s.loc l))

/-- Changes the rotation state of a location. -/
def State.modRot (s : State) (l : Loc) (f : Rotation → Rotation) : State :=
  s.modLoc l fun x => { x with rot := f x.rot }

/-- Changes every location record. -/
def State.mapLocs (s : State) (f : Location → Location) : State :=
  { s with locs := s.locs.map fun row => row.map f }

/-- Changes every location record of one bus. -/
def State.mapBusLocs (s : State) (b : Fin 4) (f : Location → Location) : State :=
  { s with locs := s.locs.set b.val ((s.locs[b.val]).map f) }

def State.bus (s : State) (b : Fin 4) : Bus := s.buses[b.val]

def State.setBus (s : State) (b : Fin 4) (x : Bus) : State := { s with buses := s.buses.set b.val x }

def State.modBus (s : State) (b : Fin 4) (f : Bus → Bus) : State := s.setBus b (f (s.bus b))

def State.feed (s : State) (b : Fin 4) : Feed := s.feeds[b.val]

def State.setFeed (s : State) (b : Fin 4) (x : Feed) : State := { s with feeds := s.feeds.set b.val x }

def State.modFeed (s : State) (b : Fin 4) (f : Feed → Feed) : State := s.setFeed b (f (s.feed b))

def State.governor (s : State) (b : Fin 4) : Governor := s.governors[b.val]

def State.setGovernor (s : State) (b : Fin 4) (x : Governor) : State :=
  { s with governors := s.governors.set b.val x }

def State.modGovernor (s : State) (b : Fin 4) (f : Governor → Governor) : State := s.setGovernor b (f (s.governor b))

/-- The number of locations of a bus in a presence state. -/
def State.countPresence (s : State) (b : Fin 4) (p : Presence) : Nat :=
  (s.locs[b.val]).toList.countP fun x => x.state == p

/-- The first location of a bus, from index `k` on, that satisfies `p`. -/
def State.firstLoc (s : State) (b : Fin 4) (k : Nat) (p : Location → Bool) : Option (Fin 62) :=
  (List.finRange 62).find? fun i => decide (k ≤ i.val) && p (s.loc { bus := b, idx := i })

/-- A location that sweeps visit (R89, R115). -/
def Location.visited (x : Location) : Bool := x.state == .present || x.state == .suspect

/-! ### The report queue (chapter 8) -/

/-- The class of a notice (R149). -/
def Notice.cls : Notice → NoticeClass
  | .taskClosed .. => .confirm
  | .taskPartial .. => .confirm
  | .press .. => .press
  | .location .. => .location
  | .bus .. => .bus
  | .supply .. => .supply
  | .session .. => .session

/-- The priority of a class (R149). -/
def ClassTable.get (t : ClassTable) : NoticeClass → Nat
  | .confirm => t.confirm
  | .press => t.press
  | .location => t.location
  | .bus => t.bus
  | .supply => t.supply
  | .session => t.session

/-- Stores the priority of a class (R150). -/
def ClassTable.set (t : ClassTable) (c : NoticeClass) (p : Nat) : ClassTable :=
  match c with
  | .confirm => { t with confirm := p }
  | .press => { t with press := p }
  | .location => { t with location := p }
  | .bus => { t with bus := p }
  | .supply => { t with supply := p }
  | .session => { t with session := p }

/-- The place of a joining entry: behind every entry of its own or higher priority, ahead of every entry of lower
priority (R152). -/
def insertEntry (e : Entry) (q : List Entry) : List Entry :=
  q.takeWhile (fun x => decide (e.priority ≤ x.priority)) ++ e :: q.dropWhile (fun x => decide (e.priority ≤ x.priority))

/-- Of two droppable entries, the one R155 drops first: the lower priority, then the younger. -/
def dropFirst (a b : Entry) : Entry :=
  if a.priority < b.priority ∨ (a.priority = b.priority ∧ b.age < a.age) then a else b

/-- The entries that are not in transmission (R155). -/
def NoticeQueue.droppable (q : NoticeQueue) : List Entry := q.entries.filter fun e => some e.age != q.transmitting

/-- The youngest droppable entry of the lowest droppable priority (R155). -/
def NoticeQueue.victim (q : NoticeQueue) : Option Entry :=
  match q.droppable with
  | [] => none
  | e :: es => some (es.foldl dropFirst e)

/-- The first sendable entry in queue order (R153). -/
def NoticeQueue.candidate (q : NoticeQueue) : Option Entry := q.entries.find? fun e => decide (q.mask < e.priority)

/-- An entry joins a queue with room (R152). -/
def NoticeQueue.join (q : NoticeQueue) (e : Entry) : NoticeQueue :=
  { q with entries := insertEntry e q.entries, nextAge := q.nextAge + 1 }

/-- An entry is offered to the queue (R151, R155); the queue, and whether a notice was dropped. -/
def NoticeQueue.offer (q : NoticeQueue) (e : Entry) : NoticeQueue × Bool :=
  if q.entries.length < 32 then (q.join e, false)
  else
    match q.victim with
    | none => ({ q with lost := true }, true)
    | some v =>
      if v.priority < e.priority then
        ({ q with entries := q.entries.filter (fun x => x.age != v.age), lost := true }.join e, true)
      else ({ q with lost := true }, true)

/-- A block calls for a notice (R151): at priority 0 nothing is made; a drop clears the shown mark (R161, R163). -/
def State.queueNotice (s : State) (n : Notice) (closure : Option Nat := none) : State :=
  let p := s.notices.classes.get n.cls
  if p = 0 then s
  else
    let r := s.notices.offer
      { notice := n, priority := p, stamp := s.now % 65536, age := s.notices.nextAge, closure := closure }
    { s with notices := r.1, link := { s.link with shown := s.link.shown && !r.2 } }

/-- Several notices of one execution, each offered in turn (R151, R155). -/
def State.queueNotices (s : State) (ns : List Notice) : State := ns.foldl (fun s n => s.queueNotice n) s

/-- A PRESS notice (R81). -/
def State.queuePress (s : State) (l : Loc) (k : Key) (o : PressOutcome) (task : Option Nat) (slot : Option (Fin 8)) : State :=
  s.queueNotice (.press l k o task slot)

/-! ### Sessions -/

/-- A range covers a location (R5). -/
def Range.covers (r : Range) (l : Loc) : Bool := r.bus == l.bus && decide (r.first ≤ l.node) && decide (l.node ≤ r.last)

/-- A session covers a location when one of its ranges does (R5). -/
def Session.covers (x : Session) (l : Loc) : Bool := x.ranges.any fun r => r.covers l

/-! ### The task store (chapter 2) -/

/-- The record that carries the id (R20). -/
def State.findTask (s : State) (id : Nat) : Option Task := s.tasks.find? fun t => t.id == id

/-- Changes the record that carries the id. -/
def State.updTask (s : State) (id : Nat) (f : Task → Task) : State :=
  { s with tasks := s.tasks.map fun t => if t.id = id then f t else t }

/-- The record that carries the id becomes FREE (R20). -/
def State.dropTask (s : State) (id : Nat) : State := { s with tasks := s.tasks.filter fun t => t.id != id }

/-- The task is WAITING or OPEN. -/
def Task.live (t : Task) : Bool := t.state != .closed

/-- The WAITING or OPEN task leaves its location's list, and the tasks after it move up (R25). -/
def State.unlist (s : State) (l : Loc) (id : Nat) : State :=
  s.modLoc l fun x => { x with tasks := x.tasks.filter fun i => i != id }

/-- A hold on the task at the location ends (R50). -/
def State.endHold (s : State) (l : Loc) (id : Nat) : State :=
  s.modRot l fun r => { r with hold := r.hold.filter fun h => h.task != id }

/-- The first task of the rest of a chain becomes OPEN without a predecessor (R30, R35). -/
def State.release (s : State) (succ : Option Nat) : State :=
  match succ with
  | none => s
  | some id => s.updTask id fun t => { t with state := .opened, pred := none }

/-- A hold naming the closed task ends, and a linger starts unless LINGER is 0 (R31 step 5, R49). -/
def State.startLinger (s : State) (l : Loc) (id : Nat) (slot : Fin 8) : State :=
  let s := s.endHold l id
  if s.timing.linger = 0 then s
  else s.modRot l fun r => { r with linger := some { task := id, slot := slot, expiry := s.now + s.timing.linger } }

/-- Closure of the task `t`, which stands OPEN in the store (R31). -/
def State.closeTask (s : State) (t : Task) (o : TaskOutcome) (picked : Nat) : State :=
  let s := s.updTask t.id fun x =>
    { x with picked := picked, state := .closed, outcome := some o, offered := 0, succ := none, closure := some s.closures }
  let n := s.closures
  let s := { s with closures := n + 1 }
  let s := s.unlist t.loc t.id
  let s := s.release t.succ
  let s := s.queueNotice (.taskClosed t.id t.slot t.loc o t.requested picked) (some n)
  s.startLinger t.loc t.id t.slot

/-- A KEEP partial of the task `t` (R79, R80). -/
def State.keepPartial (s : State) (t : Task) (offered : Nat) : State :=
  let picked := t.picked + offered
  let s := s.updTask t.id fun x => { x with picked := picked, offered := x.requested - picked }
  let s := s.queueNotice (.taskPartial t.id t.slot t.loc picked (t.requested - picked))
  s.endHold t.loc t.id

/-- The CONFIRM rule on the OPEN task `t` with the given offered quantity (R79, R80). -/
def State.applyConfirm (s : State) (t : Task) (offered : Nat) : State :=
  if offered = t.remaining then s.closeTask t .done (t.picked + offered)
  else if offered = 0 then s.closeTask t .short t.picked
  else
    match t.shortMode with
    | .close => s.closeTask t .short (t.picked + offered)
    | .keep => s.keepPartial t offered

/-- The pending entries of the task's session that name the task leave the list (R13). -/
def State.dropPending (s : State) (t : Task) : State :=
  let x := s.session t.slot
  s.setSession t.slot { x with pending := x.pending.filter fun e => e.task != t.id }

/-- The number of pending entries that name the task (R33, R39). -/
def State.pendingCount (s : State) (t : Task) : Nat := (s.session t.slot).pending.countP fun e => e.task == t.id

/-- A WAITING or OPEN task is freed by withdrawal or by the close of its session (R37). -/
def State.freeTask (s : State) (t : Task) : State :=
  let s := s.unlist t.loc t.id
  let s := s.dropPending t
  let s := s.endHold t.loc t.id
  s.dropTask t.id

/-- The session's front task at the location: its earliest OPEN task in the list (R26). -/
def State.frontTask (s : State) (l : Loc) (slot : Fin 8) : Option Task :=
  (s.loc l).tasks.findSome? fun id => (s.findTask id).filter fun t => t.state == .opened && t.slot == slot

/-- The eligible set, one front task per ACTIVE session, in order of slot number (R51). -/
def State.eligible (s : State) (l : Loc) : List Task :=
  (List.finRange 8).filterMap fun slot => if (s.session slot).state = .active then s.frontTask l slot else none

/-! ### The aisle pair -/

/-- The controller puts frames on its pair and, from then on, awaits the answer of the exchange (R111). -/
def State.sendFrames (s : State) (b : Fin 4) (frames : List AisleFrame) (x : Exchange) : State :=
  s.modBus b fun c => { c with sent := frames, exchange := x }

/-- No answer is awaited any more. -/
def State.endExchange (s : State) (b : Fin 4) : State := s.modBus b fun c => { c with exchange := .none }

/-- A good answer of any kind on the bus (R118): it counts for the sweep, and it clears a set silent flag with the
notice SPEAKING. -/
def State.goodAnswer (s : State) (b : Fin 4) : State :=
  let wasSilent := (s.bus b).silent
  let s := s.modBus b fun c => { c with sweepGood := true, silent := false }
  if wasSilent then s.queueNotice (.bus b .speaking none) else s

/-! ### Time -/

/-- One millisecond passes: the 48-bit count rises by 1, except while a power-on or RSTN reset is held (R174;
assumptions 1 and 2). -/
def State.tick (s : State) : State := if s.held then s else { s with now := (s.now + 1) % 2 ^ 48 }

/-! ### Requests -/

/-- RDY (R171). -/
def State.ready (s : State) : Bool := !s.held && decide (s.link.replies.length < 4)

/-- The execution of a taken request by its owner: its one answer joins the reply queue (R166 step 2, R167). While the
part is in reset it takes no notice of the link (R174); with no room for the answer the request is not taken (R165,
R171). Assumption 5. -/
def State.request (s : State) (f : State → State × Answer) : State :=
  if s.held then s
  else if s.link.replies.length < 4 then
    let r := f s
    { r.1 with link := { r.1.link with replies := r.1.link.replies ++ [r.2], lastOutcome := .taken } }
  else { s with link := { s.link with lastOutcome := .notReady } }

/-- An answer (R168): its kind is the request kind plus 0x80. -/
def answerOf (kind : Nat) (result : Reason) (fields : List Field) : Answer :=
  { kind := kind + 0x80, result := result, fields := fields }

/-- A refused request leaves the part as it was (R3, R24, R168). -/
def State.refuse (s : State) (kind : Nat) (reason : Reason) (fields : List Field := []) : State × Answer :=
  (s, answerOf kind reason fields)

end Sys2Proof.Machine
end

