-- ==== Sys2Proof/Machine/Display.lean ====
section
/-! DEFINITION. The display scheduler: planning cases, dwell, tokens, forecast (chapter 3). -/

namespace Sys2Proof.Machine

/-- The removal that opens a planning: an expired hold and an expired linger go (R46). -/
def Rotation.expire (r : Rotation) (now : Instant) : Rotation :=
  { r with hold := r.hold.filter fun h => decide (now < h.expiry),
           linger := r.linger.filter fun g => decide (now < g.expiry) }

/-- The digit of a display character. -/
def digitGlyph (n : Nat) : Glyph := .digit ⟨n % 10, Nat.mod_lt n (by decide)⟩

/-- A quantity right-aligned with leading blanks; 0 shows as two blanks and 0 (R57). -/
def quantityChars (n : Nat) : Chars :=
  { left := if n < 100 then .blank else digitGlyph (n / 100),
    mid := if n < 10 then .blank else digitGlyph (n / 10),
    right := digitGlyph n }

/-- Task content (R57). -/
def State.taskFace (s : State) (l : Loc) (t : Task) : Face :=
  { colour := (s.session t.slot).colour,
    chars := if (s.loc l).kind = some .display then quantityChars t.offered else Chars.blank,
    blink := if t.offered = t.remaining then .steady else .slow }

/-- Lamp-test content: WHITE, 8 8 8, STEADY (R47). -/
def Face.lampTest : Face :=
  { colour := some .white, chars := { left := .digit 8, mid := .digit 8, right := .digit 8 }, blink := .steady }

/-- The weight of a session's task (R55). -/
def State.weight (s : State) (slot : Fin 8) : Nat := (s.session slot).priority.getD 0 + 1

/-- The dwell of a task of the eligible set `el` (R55). -/
def State.dwellOf (s : State) (el : List Task) (t : Task) : Nat :=
  max s.timing.minDwell (s.timing.cycle * s.weight t.slot / (el.map fun x => s.weight x.slot).sum)

/-- The content a planning takes, before tokens: its meaning and face, the rotation state it leaves, and whether R54
advanced. -/
structure Choice where
  meaning : Meaning
  face : Face
  rot : Rotation
  advanced : Bool
  deriving DecidableEq, Repr

/-- A choice that shows the task, taking the shown task and rotation position (R50, R53, R54). -/
def State.showTask (s : State) (l : Loc) (t : Task) (rot : Rotation) (dwell : Option Instant) (advanced : Bool) : Choice :=
  { meaning := .task { task := t.id, slot := t.slot }, face := s.taskFace l t,
    rot := { rot with dwell := dwell, position := some t.slot }, advanced := advanced }

/-- The next session of the eligible set in cyclic order after the rotation position (R54). -/
def nextInCycle (position : Option (Fin 8)) (first : Task) (el : List Task) : Task :=
  match position with
  | none => first
  | some p => (el.find? fun t => decide (p < t.slot)).getD first

/-- The current task of R54 where it is in the eligible set. -/
def currentTask (meaning : Option Meaning) (el : List Task) : Option Task :=
  match meaning with
  | some (.task x) => el.find? fun t => t.id == x.task && t.slot == x.slot
  | _ => none

/-- Case 7 on the eligible set `first :: rest` (R54). -/
def State.rotate (s : State) (l : Loc) (rot : Rotation) (first : Task) (rest : List Task) : Choice :=
  let el := first :: rest
  let next := nextInCycle rot.position first el
  let advance := s.showTask l next rot (some (s.now + s.dwellOf el next)) true
  match currentTask rot.meaning el with
  | none => advance
  | some t =>
    match rot.dwell with
    | none => s.showTask l t rot (some (s.now + s.dwellOf el t)) false
    | some d => if s.now < d then s.showTask l t rot (some d) false else advance

/-- Cases 4 to 7 (R50 to R54). -/
def State.chooseTask (s : State) (l : Loc) (rot : Rotation) : Choice :=
  let el := s.eligible l
  match rot.hold.bind fun h => el.find? fun t => t.id == h.task with
  | some t => s.showTask l t rot (some s.now) false
  | none =>
    let rot := { rot with hold := none }
    match el with
    | [] => { meaning := .idle, face := Face.dark, rot := { rot with dwell := none }, advanced := false }
    | [t] => s.showTask l t rot none false
    | t :: rest => s.rotate l rot t rest

/-- The planning cases of R46 at the present instant. -/
def State.choose (s : State) (l : Loc) : Choice :=
  let rot := (s.loc l).rot.expire s.now
  if !s.ms0 then { meaning := .blanked, face := Face.dark, rot := rot, advanced := false }
  else if !s.ms1 then { meaning := .blanked, face := Face.lampTest, rot := rot, advanced := false }
  else
    match rot.direct with
    | some p => { meaning := .direct, face := p, rot := rot, advanced := false }
    | none =>
      match rot.linger with
      | some g =>
        { meaning := .linger { task := g.task, slot := g.slot },
          face := { colour := (s.session g.slot).colour, chars := Chars.blank, blink := .steady },
          rot := { rot with position := some g.slot }, advanced := false }
      | none => s.chooseTask l rot

/-- Whether the planning issues a new token (R58, with R47 for case 1 and R54 for an advance). -/
def Choice.issues (c : Choice) : Bool :=
  c.rot.meaning != some c.meaning || (c.rot.fresh && c.meaning != .blanked) || c.advanced

/-- The rotation state after the planning: the content is recorded and, where R58 says so, a token is issued with its
map entry (R58, R59). -/
def Choice.settle (c : Choice) (now : Instant) : Rotation :=
  let rot := { c.rot with meaning := some c.meaning, face := c.face }
  if c.issues then
    { rot with token := rot.token + 1,
               map := rot.map.set (rot.token + 1).val (some { meaning := c.meaning, issued := now }),
               slotStart := some now, fresh := false }
  else rot

/-- A planning of the location at the present instant (R44, R46). -/
def State.plan (s : State) (l : Loc) : State := s.modRot l fun _ => (s.choose l).settle s.now

/-- The forecast content of a location; it changes no record (R45). -/
def State.forecast (s : State) (l : Loc) : Face := (s.choose l).face

/-- A character is not blank. -/
def Glyph.lit (g : Glyph) : Bool := g != .blank

/-- Content shows digits on a DISPLAY module when a character is not blank (R45). -/
def showsDigits (kind : Option ModuleKind) (f : Face) : Bool :=
  kind == some .display && (f.chars.left.lit || f.chars.mid.lit || f.chars.right.lit)

end Sys2Proof.Machine
end

