-- ==== Sys2Proof/Machine/Governor.lean ====
section
/-! DEFINITION. The load governor: currents, derating, mode and scale, overload, phase expiry (R131, R142 to R148). -/

namespace Sys2Proof.Machine

/-- The band of a level (R131). -/
def bandOf (level : Nat) : Nat :=
  if 12 ≤ level then 4 else if 8 ≤ level then 3 else if 4 ≤ level then 2 else if 1 ≤ level then 1 else 0

/-- The derating in quarters (R131, R144). -/
def deratingOf (level : Nat) : Nat := max 1 (bandOf level)

/-- The visited locations of a bus (R143, R115). -/
def State.visitedLocs (s : State) (b : Fin 4) : List Loc :=
  ((List.finRange 62).map fun i => { bus := b, idx := i : Loc }).filter fun l => (s.loc l).visited

/-- The base current of one location in mA (R143). -/
def State.baseAt (s : State) (l : Loc) : Nat :=
  match (s.loc l).kind with
  | some .button => 6
  | some .display => 9 + if showsDigits (s.loc l).kind (s.forecast l) then 14 else 0
  | none => 0

/-- The lamp demand of one location in mA (R143). -/
def State.demandAt (s : State) (l : Loc) : Nat := 20 * ((s.forecast l).colour.map Colour.channels).getD 0

/-- The result of a governor computation: mode, scale, overload (R144, R145). -/
structure Budget where
  mode : GovernorMode
  scale : Nat
  overload : Bool
  deriving DecidableEq, Repr

/-- R144 and R145 from the capacity, the last level, the base current and the two halves of the demand. -/
def budget (capacity level base even odd : Nat) : Budget :=
  let headroom := capacity * deratingOf level / 4 - base
  let demand := even + odd
  if demand = 0 then { mode := .steady, scale := 16, overload := false }
  else
    let scale := min 16 (16 * headroom / demand)
    if 4 ≤ scale then { mode := .steady, scale := scale, overload := false }
    else
      let scale2 := min 16 (16 * headroom / max even odd)
      if 4 ≤ scale2 then { mode := .alternate, scale := scale2, overload := false }
      else { mode := .alternate, scale := 4, overload := true }

/-- The budget of a sweep start on the bus, from the forecast (R143 to R145). -/
def State.sweepBudget (s : State) (b : Fin 4) : Budget :=
  let ls := s.visitedLocs b
  budget (s.governor b).capacity (s.feed b).level (ls.map s.baseAt).sum
    ((ls.filter fun l => l.node % 2 == 0).map s.demandAt).sum ((ls.filter fun l => l.node % 2 == 1).map s.demandAt).sum

/-- The phase expiry a sweep start leaves (R147). -/
def phaseExpiryAfter (mode : GovernorMode) (now : Instant) (old : Option Instant) : Option Instant :=
  match mode, old with
  | .alternate, none => some (now + 500)
  | .alternate, some t => some t
  | _, _ => none

/-- The governor's work at a sweep start (R143 to R147). -/
def State.governSweep (s : State) (b : Fin 4) : State :=
  let r := s.sweepBudget b
  let old := (s.governor b).overload
  let s := s.modGovernor b fun g =>
    { g with mode := r.mode, scale := r.scale, overload := r.overload,
             phaseExpiry := phaseExpiryAfter r.mode s.now g.phaseExpiry }
  if r.overload && !old then s.queueNotice (.supply b .overload (s.feed b).level none)
  else if old && !r.overload then s.queueNotice (.supply b .overloadEnd (s.feed b).level none)
  else s

/-- The phase bit flips and the expiry advances (R147); before the expiry there is nothing to do. -/
def State.flipPhase (s : State) (b : Fin 4) : State :=
  match (s.governor b).phaseExpiry with
  | none => s
  | some t =>
    if t ≤ s.now then
      (s.modBus b fun c => { c with phase := !c.phase }).modGovernor b fun g => { g with phaseExpiry := some (t + 500) }
    else s

end Sys2Proof.Machine
end

