-- ==== Sys2Proof/WellFormed.lean ====
section
/-! DEFINITION. Which commands the link can carry: each request field fits its type of R176, and an unknown
request's kind is none that R169 lists. -/

namespace Sys2Proof

/-- The number fits a u8 field (R176). -/
def fitsU8 (n : Nat) : Bool := n < 256

/-- The number fits a u16 field (R176). -/
def fitsU16 (n : Nat) : Bool := n < 65536

/-- The kind is one of the request kinds of R169. -/
def recognisedKind (k : Nat) : Bool :=
  (0x01 ≤ k && k ≤ 0x07) || (0x10 ≤ k && k ≤ 0x15) || (0x20 ≤ k && k ≤ 0x27) || (0x30 ≤ k && k ≤ 0x33)

/-- Well-formed commands. Commands that are no requests carry only operands of typed range, or bytes or
levels as received, so each of them is well formed. -/
def Instr.wf : Instr → Bool
  | .powerOnReset => true
  | .rstnReset => true
  | .resetRelease => true
  | .darkLamptestChange _ _ => true
  | .lcsFall => true
  | .statusByteComplete _ => true
  | .lcsRise _ => true
  | .unknownRequest kind => fitsU8 kind && kind != 0 && !recognisedKind kind
  | .partStatus => true
  | .resetPart => true
  | .setClass cls priority => fitsU8 cls && fitsU8 priority
  | .setMask level => fitsU8 level
  | .setTiming cycle minDwell guard hold linger =>
      fitsU16 cycle && fitsU16 minDwell && fitsU16 guard && fitsU16 hold && fitsU16 linger
  | .setSweep bus period => fitsU8 bus && fitsU16 period
  | .setFeed bus capacity mode => fitsU8 bus && fitsU16 capacity && fitsU8 mode
  | .enrol bus => fitsU8 bus
  | .resetBus bus => fitsU8 bus
  | .queryBus bus => fitsU8 bus
  | .queryLocation bus node => fitsU8 bus && fitsU8 node
  | .directSet bus node colour char0 char1 char2 blink =>
      fitsU8 bus && fitsU8 node && fitsU8 colour && fitsU8 char0 && fitsU8 char1 && fitsU8 char2 && fitsU8 blink
  | .directEnd bus node => fitsU8 bus && fitsU8 node
  | .openSession slot colour priority => fitsU8 slot && fitsU8 colour && fitsU8 priority
  | .grant slot bus first last => fitsU8 slot && fitsU8 bus && fitsU8 first && fitsU8 last
  | .revoke slot index => fitsU8 slot && fitsU8 index
  | .setPriority slot priority => fitsU8 slot && fitsU8 priority
  | .suspend slot => fitsU8 slot
  | .resume slot => fitsU8 slot
  | .closeSession slot => fitsU8 slot
  | .querySession slot => fitsU8 slot
  | .postTask id slot bus node requested shortMode pred =>
      fitsU16 id && fitsU8 slot && fitsU8 bus && fitsU8 node && fitsU16 requested && fitsU8 shortMode && fitsU16 pred
  | .amendTask id requested => fitsU16 id && fitsU16 requested
  | .withdrawTask id cascade => fitsU16 id && fitsU8 cascade
  | .queryTask id => fitsU16 id
  | .sweepStart _ => true
  | .keysAnswer _ _ => true
  | .keysWindowExpiry _ => true
  | .identifyReply _ _ => true
  | .identifyWindowExpiry _ => true
  | .hereAnswer _ _ => true
  | .hereWindowExpiry _ => true
  | .enrLowEnd _ => true
  | .takenAnswer _ _ => true
  | .takenWindowExpiry _ => true
  | .enrolWaitEnd _ => true
  | .resettingEnd _ => true
  | .sampleStart _ => true
  | .sampleComplete _ _ => true
  | .phaseFlip _ => true

end Sys2Proof
end

