-- ==== Sys2Proof/Decode.lean ====
section
/-! DEFINITION. The request decoder of the link port (R168, R169, R177, R178), its encoder, and the decoder over
the words of spec/opcode_table.json, whose rows give no bits. -/

namespace Sys2Proof

/-- No row of spec/opcode_table.json gives its command any bits, so no word spells a command. -/
def decodeTableWord (_nbits _w : Nat) : Option Instr := none

/-- A u8 field of a request (R176). -/
def byteValue (b : Byte) : Nat := b.toNat

/-- A u16 field of a request, least significant byte first (R176). -/
def wordValue (lo hi : Byte) : Nat := lo.toNat + 256 * hi.toNat

/-- The byte of a u8 field (R176). -/
def u8Bytes (n : Nat) : List Byte := [BitVec.ofNat 8 n]

/-- The bytes of a u16 field, least significant first (R176). -/
def u16Bytes (n : Nat) : List Byte := [BitVec.ofNat 8 n, BitVec.ofNat 8 (n / 256)]

/-- The body length of each request kind (R169, R178). -/
def requestLength (kind : Nat) : Option Nat :=
  match kind with
  | 0x01 => some 0 | 0x02 => some 0 | 0x03 => some 2 | 0x04 => some 1 | 0x05 => some 10
  | 0x06 => some 3 | 0x07 => some 4
  | 0x10 => some 1 | 0x11 => some 1 | 0x12 => some 1 | 0x13 => some 2 | 0x14 => some 7 | 0x15 => some 2
  | 0x20 => some 3 | 0x21 => some 4 | 0x22 => some 2 | 0x23 => some 2
  | 0x24 => some 1 | 0x25 => some 1 | 0x26 => some 1 | 0x27 => some 1
  | 0x30 => some 10 | 0x31 => some 4 | 0x32 => some 3 | 0x33 => some 2
  | _ => none

/-- The request that a kind and a body of its length spell (R169, R178). -/
def decodeRequest (kind : Nat) (body : List Byte) : Option Instr :=
  match kind, body with
  | 0x01, [] => some .partStatus
  | 0x02, [] => some .resetPart
  | 0x03, [c, p] => some (.setClass (byteValue c) (byteValue p))
  | 0x04, [l] => some (.setMask (byteValue l))
  | 0x05, [c0, c1, m0, m1, g0, g1, h0, h1, l0, l1] =>
      some (.setTiming (wordValue c0 c1) (wordValue m0 m1) (wordValue g0 g1) (wordValue h0 h1) (wordValue l0 l1))
  | 0x06, [b, p0, p1] => some (.setSweep (byteValue b) (wordValue p0 p1))
  | 0x07, [b, c0, c1, m] => some (.setFeed (byteValue b) (wordValue c0 c1) (byteValue m))
  | 0x10, [b] => some (.enrol (byteValue b))
  | 0x11, [b] => some (.resetBus (byteValue b))
  | 0x12, [b] => some (.queryBus (byteValue b))
  | 0x13, [b, n] => some (.queryLocation (byteValue b) (byteValue n))
  | 0x14, [b, n, c, c0, c1, c2, k] =>
      some (.directSet (byteValue b) (byteValue n) (byteValue c) (byteValue c0) (byteValue c1) (byteValue c2) (byteValue k))
  | 0x15, [b, n] => some (.directEnd (byteValue b) (byteValue n))
  | 0x20, [s, c, p] => some (.openSession (byteValue s) (byteValue c) (byteValue p))
  | 0x21, [s, b, f, l] => some (.grant (byteValue s) (byteValue b) (byteValue f) (byteValue l))
  | 0x22, [s, i] => some (.revoke (byteValue s) (byteValue i))
  | 0x23, [s, p] => some (.setPriority (byteValue s) (byteValue p))
  | 0x24, [s] => some (.suspend (byteValue s))
  | 0x25, [s] => some (.resume (byteValue s))
  | 0x26, [s] => some (.closeSession (byteValue s))
  | 0x27, [s] => some (.querySession (byteValue s))
  | 0x30, [i0, i1, s, b, n, r0, r1, m, p0, p1] =>
      some (.postTask (wordValue i0 i1) (byteValue s) (byteValue b) (byteValue n) (wordValue r0 r1) (byteValue m) (wordValue p0 p1))
  | 0x31, [i0, i1, r0, r1] => some (.amendTask (wordValue i0 i1) (wordValue r0 r1))
  | 0x32, [i0, i1, c] => some (.withdrawTask (wordValue i0 i1) (byteValue c))
  | 0x33, [i0, i1] => some (.queryTask (wordValue i0 i1))
  | _, _ => none

/-- What the link port makes of a taken request before its owner sees it (R168). -/
inductive LinkRequest where
  /-- The kind is none of R169; the answer is BAD_KIND. -/
  | badKind (kind : Nat)
  /-- The length is not the body length of the kind; the answer is BAD_LENGTH. -/
  | badLength (kind required : Nat)
  /-- The request passed both checks. -/
  | request (i : Instr)
  deriving DecidableEq, Repr

/-- The two checks of R168, in order, on a request's kind, its length byte and the bytes clocked in after them.
The last `none` arm is never reached: `body` holds `length` bytes once the request is taken (R165). -/
def readRequest (kind length : Nat) (body : List Byte) : LinkRequest :=
  match requestLength kind with
  | none => .badKind kind
  | some required =>
    if length = required then
      match decodeRequest kind (body.take required) with
      | some i => .request i
      | none => .badLength kind required
    else .badLength kind required

/-- The kind byte and the body bytes of a request command (R169, R178); none for the commands that are no
requests of R169. -/
def encodeRequest : Instr → Option (Nat × List Byte)
  | .partStatus => some (0x01, [])
  | .resetPart => some (0x02, [])
  | .setClass cls priority => some (0x03, u8Bytes cls ++ u8Bytes priority)
  | .setMask level => some (0x04, u8Bytes level)
  | .setTiming cycle minDwell guard hold linger =>
      some (0x05, u16Bytes cycle ++ u16Bytes minDwell ++ u16Bytes guard ++ u16Bytes hold ++ u16Bytes linger)
  | .setSweep bus period => some (0x06, u8Bytes bus ++ u16Bytes period)
  | .setFeed bus capacity mode => some (0x07, u8Bytes bus ++ u16Bytes capacity ++ u8Bytes mode)
  | .enrol bus => some (0x10, u8Bytes bus)
  | .resetBus bus => some (0x11, u8Bytes bus)
  | .queryBus bus => some (0x12, u8Bytes bus)
  | .queryLocation bus node => some (0x13, u8Bytes bus ++ u8Bytes node)
  | .directSet bus node colour char0 char1 char2 blink =>
      some (0x14, u8Bytes bus ++ u8Bytes node ++ u8Bytes colour ++ u8Bytes char0 ++ u8Bytes char1 ++ u8Bytes char2
        ++ u8Bytes blink)
  | .directEnd bus node => some (0x15, u8Bytes bus ++ u8Bytes node)
  | .openSession slot colour priority => some (0x20, u8Bytes slot ++ u8Bytes colour ++ u8Bytes priority)
  | .grant slot bus first last => some (0x21, u8Bytes slot ++ u8Bytes bus ++ u8Bytes first ++ u8Bytes last)
  | .revoke slot index => some (0x22, u8Bytes slot ++ u8Bytes index)
  | .setPriority slot priority => some (0x23, u8Bytes slot ++ u8Bytes priority)
  | .suspend slot => some (0x24, u8Bytes slot)
  | .resume slot => some (0x25, u8Bytes slot)
  | .closeSession slot => some (0x26, u8Bytes slot)
  | .querySession slot => some (0x27, u8Bytes slot)
  | .postTask id slot bus node requested shortMode pred =>
      some (0x30, u16Bytes id ++ u8Bytes slot ++ u8Bytes bus ++ u8Bytes node ++ u16Bytes requested ++ u8Bytes shortMode
        ++ u16Bytes pred)
  | .amendTask id requested => some (0x31, u16Bytes id ++ u16Bytes requested)
  | .withdrawTask id cascade => some (0x32, u16Bytes id ++ u8Bytes cascade)
  | .queryTask id => some (0x33, u16Bytes id)
  | .powerOnReset => none
  | .rstnReset => none
  | .resetRelease => none
  | .darkLamptestChange _ _ => none
  | .lcsFall => none
  | .statusByteComplete _ => none
  | .lcsRise _ => none
  | .unknownRequest _ => none
  | .sweepStart _ => none
  | .keysAnswer _ _ => none
  | .keysWindowExpiry _ => none
  | .identifyReply _ _ => none
  | .identifyWindowExpiry _ => none
  | .hereAnswer _ _ => none
  | .hereWindowExpiry _ => none
  | .enrLowEnd _ => none
  | .takenAnswer _ _ => none
  | .takenWindowExpiry _ => none
  | .enrolWaitEnd _ => none
  | .resettingEnd _ => none
  | .sampleStart _ => none
  | .sampleComplete _ _ => none
  | .phaseFlip _ => none

/-- The bytes of a request on LDI: kind, length, body (R177). -/
def requestBytes (i : Instr) : List Byte :=
  match encodeRequest i with
  | some (kind, body) => BitVec.ofNat 8 kind :: BitVec.ofNat 8 body.length :: body
  | none => []

end Sys2Proof
end

