-- ==== Sys2Proof/Machine/Frames.lean ====
section
/-! DEFINITION. The aisle frames as bytes: the bus CRC, the frames the part sends, and the checks that make a received
answer good (R111, R179, R180). -/

namespace Sys2Proof.Machine

/-- One shift of the CRC register (R180 step 3). -/
def crcShift (r : Byte) : Byte := if r.getMsbD 0 then (r <<< 1) ^^^ 0x07#8 else r <<< 1

/-- One byte taken into the CRC register (R180 steps 2 and 3). -/
def crcByte (r b : Byte) : Byte :=
  crcShift (crcShift (crcShift (crcShift (crcShift (crcShift (crcShift (crcShift (r ^^^ b))))))))

/-- The bus CRC over the bytes of a frame before it (R180). -/
def busCrc (bytes : List Byte) : Byte := bytes.foldl crcByte 0

/-- A frame completed with its CRC (R179). -/
def withCrc (bytes : List Byte) : List Byte := bytes ++ [busCrc bytes]

/-- The flags byte of a LAMP frame: blink, mode, phase bit, acknowledge bit (R179). -/
def lampFlags (blink : Blink) (alternate phase ack : Bool) : Nat :=
  blink.code + 2 * alternate.toNat + 4 * phase.toNat + 8 * ack.toNat

/-- The bytes of a frame the part sends (R179). -/
def AisleFrame.bytes : AisleFrame → List Byte
  | .lamp address face scale alternate phase ack token =>
      withCrc <| [0x11, address, lampCode face.colour, face.chars.left.code, face.chars.mid.code, face.chars.right.code,
        scale, lampFlags face.blink alternate phase ack, token.val].map (BitVec.ofNat 8)
  | .identify address => withCrc ([0x12, address].map (BitVec.ofNat 8))
  | .release => withCrc [0x20#8]
  | .take address => withCrc ([0x21, address].map (BitVec.ofNat 8))
  | .look pred => withCrc ([0x22, pred].map (BitVec.ofNat 8))

/-! ### Bits on the pair -/

/-- What the pair carries in one bit time (R111). -/
inductive PairBit where
  | start
  | data (b : Bool)
  | stop
  deriving DecidableEq, Repr

/-- A byte on the pair: one start bit, eight data bits with the least significant first, one stop bit (R111). -/
def byteBits (x : Byte) : List PairBit :=
  .start :: (List.finRange 8).map (fun (i : Fin 8) => PairBit.data (x.getLsbD i.val)) ++ [.stop]

/-- One bit time of a bus: the level of xDE, and the bit that the part sends, if it sends (R111, 6.7). -/
structure PairSlot where
  de : Bool
  bit : Option PairBit
  deriving DecidableEq, Repr

/-- A bit time in which the part sends nothing: its driver is disabled (R107, R111). -/
def PairSlot.idle : PairSlot := { de := false, bit := none }

/-- A frame on the pair: its bytes follow one another with no gap, and the driver is enabled throughout (R111). -/
def AisleFrame.slots (f : AisleFrame) : List PairSlot :=
  f.bytes.flatMap fun x => (byteBits x).map fun p => { de := true, bit := some p }

/-- Frames sent one after the other, each after the least quiet time, 40 us with no byte on the pair (R111; assumption 14). -/
def sendSlots (frames : List AisleFrame) : List PairSlot :=
  frames.flatMap fun f => List.replicate 10 PairSlot.idle ++ f.slots

/-- The bytes of a received frame; none if the stop bit of one of them is not correct (R111, R112). -/
def goodBytes (frame : List PairByte) : Option (List Byte) :=
  if frame.all PairByte.stop then some (frame.map PairByte.data) else none

/-- Bytes that arrive with every stop bit correct. -/
def cleanBytes (bytes : List Byte) : List PairByte := bytes.map fun x => { data := x, stop := true }

/-! ### Answers -/

/-- The event of a KEYS frame (R65, R179): the alternating bit, then key code, token, since-change and press age. -/
structure KeyEvent where
  bit : Bool
  key : Nat
  token : Nat
  since : Nat
  age : Nat
  deriving DecidableEq, Repr

/-- A good KEYS answer from the visited node: its event, if it carries one (R111, R123, R179). The outer `none` is a
frame that is not good. -/
def readKeys (address : Nat) (frame : List Byte) : Option (Option KeyEvent) :=
  match frame with
  | [kind, a, flags, key, token, since, age, crc] =>
      if kind = 0x91#8 ∧ a.toNat = address ∧ crc = busCrc [kind, a, flags, key, token, since, age] then
        if flags.getLsbD 0 then
          some (some { bit := flags.getLsbD 1, key := key.toNat, token := token.toNat, since := since.toNat,
                       age := age.toNat })
        else some none
      else none
  | _ => none

/-- What a module says of itself: its kind code and its serial (R94). -/
structure Identity where
  code : Nat
  serial : BitVec 32
  deriving DecidableEq, Repr

/-- The serial, sent least significant byte first (R179). -/
def serialOf (s0 s1 s2 s3 : Byte) : BitVec 32 := s3 ++ s2 ++ s1 ++ s0

/-- A good frame of the given kind that carries an address and an identity (R111, R179). -/
def readIdentity (kind : Byte) (address : Nat) (frame : List Byte) : Option Identity :=
  match frame with
  | [k, a, code, s0, s1, s2, s3, crc] =>
      if k = kind ∧ a.toNat = address ∧ crc = busCrc [k, a, code, s0, s1, s2, s3] then
        some { code := code.toNat, serial := serialOf s0 s1 s2 s3 }
      else none
  | _ => none

/-- A good IDENTIFY reply from the node (R119). -/
def readIdentifyReply (address : Nat) (frame : List Byte) : Option Identity := readIdentity 0x92#8 address frame

/-- A good TAKEN for the offered address (R93). -/
def readTaken (address : Nat) (frame : List Byte) : Option Identity := readIdentity 0xA1#8 address frame

/-- A good HERE carrying the address searched for (R111, R113). -/
def readHere (address : Nat) (frame : List Byte) : Bool :=
  match frame with
  | [k, a, crc] => k == 0xA2#8 && a.toNat == address && crc == busCrc [k, a]
  | _ => false

end Sys2Proof.Machine
end

