-- ==== Sys2Proof/Machine/Press.lean ====
section
/-! DEFINITION. The press resolver (chapter 4). -/

namespace Sys2Proof.Machine

/-- The press instant: reception less the age, and not before instant 0 (R66). -/
def State.pressInstant (s : State) (e : KeyEvent) : Instant := s.now - 4 * e.age

/-- The target is OPEN at this location in this slot (R73). -/
def Task.openAt (t : Task) (l : Loc) (slot : Fin 8) : Bool := t.state == .opened && t.loc == l && t.slot == slot

/-- R72 condition 3. Equal instants are a free value (assumption 9). -/
def issuedBefore (u v : TokenEntry) : Bool :=
  decide (u.issued < v.issued) || (u.issued == v.issued && Config.equalIssueIsBefore)

/-- The task of the entry before the reported token, where the guard takes the press back to it (R72). -/
def State.guardTask (s : State) (l : Loc) (e : KeyEvent) (token : Fin 8) (entry : TokenEntry) : Option Shown :=
  if 4 * e.since < s.timing.guard then
    match (s.loc l).rot.map[(token - 1).val] with
    | some u =>
      match u.meaning with
      | .task x =>
        match s.findTask x.task with
        | some t => if issuedBefore u entry && t.openAt l x.slot then some x else none
        | none => none
      | _ => none
    | none => none
  else none

/-- The hold that MINUS and PLUS set or renew (R50, R77, R78). -/
def State.setHold (s : State) (l : Loc) (id : Nat) : State :=
  s.modRot l fun r => { r with hold := some { task := id, expiry := s.now + s.timing.hold } }

/-- MINUS on the task (R77). -/
def State.applyMinus (s : State) (l : Loc) (t : Task) : State :=
  (s.updTask t.id fun x => { x with offered := x.offered - 1 }).setHold l t.id

/-- PLUS on the task (R78). -/
def State.applyPlus (s : State) (l : Loc) (t : Task) : State :=
  (s.updTask t.id fun x => { x with offered := min (x.offered + 1) x.remaining }).setHold l t.id

/-- A CONFIRM on a task of a SUSPENDED session is held, or LATE when the list is full (R12, R75). -/
def State.holdConfirm (s : State) (l : Loc) (t : Task) (press : Instant) : State :=
  let x := s.session t.slot
  if x.pending.length < 4 then
    (s.setSession t.slot { x with pending := x.pending ++ [{ task := t.id, offered := t.offered, press := press }] }).queueNotice
      (.session t.slot t.id)
  else s.queuePress l .confirm .late (some t.id) (some t.slot)

/-- Steps 9 to 12: the target is OPEN at the location (R74 to R80). -/
def State.pressOpen (s : State) (l : Loc) (key : Key) (press : Instant) (t : Task) : State :=
  if t.amended.any fun a => decide (press < a) then s.queuePress l key .superseded (some t.id) (some t.slot)
  else if (s.session t.slot).state = .suspended then
    match key with
    | .confirm => s.holdConfirm l t press
    | .minus => s
    | .plus => s
  else
    match key with
    | .confirm => s.applyConfirm t t.offered
    | .minus => if (s.loc l).kind = some .button then s else s.applyMinus l t
    | .plus => if (s.loc l).kind = some .button then s else s.applyPlus l t

/-- A CONFIRM on a task closed DONE at this location in this slot is a double confirm (R73). -/
def Task.doneAt (t : Task) (l : Loc) (slot : Fin 8) : Bool :=
  t.state == .closed && t.outcome == some .done && t.loc == l && t.slot == slot

/-- Step 8: the target check (R73). -/
def State.pressTarget (s : State) (l : Loc) (key : Key) (press : Instant) (x : Shown) : State :=
  match s.findTask x.task with
  | some t =>
    if t.openAt l x.slot then s.pressOpen l key press t
    else if key = .confirm ∧ t.doneAt l x.slot then s
    else s.queuePress l key .late (some x.task) (some x.slot)
  | none => s.queuePress l key .late (some x.task) (some x.slot)

/-- The session a STRAY press is reported against: the one ACTIVE session that covers the location (R70). -/
def State.strayFor (s : State) (l : Loc) : Option (Fin 8) :=
  match (List.finRange 8).filter fun i => (s.session i).state == .active && (s.session i).covers l with
  | [i] => some i
  | _ => none

/-- Steps 5 to 7 on the entry that the reported token selects (R70 to R72). -/
def State.pressEntry (s : State) (l : Loc) (key : Key) (e : KeyEvent) (token : Fin 8) (entry : TokenEntry) : State :=
  match entry.meaning with
  | .idle => s.queuePress l key .stray none (s.strayFor l)
  | .linger _ => s
  | .blanked => s
  | .direct => s.queuePress l key .direct none none
  | .task x => s.pressTarget l key (s.pressInstant e) ((s.guardTask l e token entry).getD x)

/-- The resolution of a key event taken at the present instant (R65 to R82). -/
def State.resolvePress (s : State) (l : Loc) (e : KeyEvent) : State :=
  match Key.ofCode e.key with
  | none => s
  | some key =>
    if !s.ms0 || !s.ms1 then s
    else if (s.loc l).rot.direct.isSome then s.queuePress l key .direct none none
    else
      match slotOf e.token with
      | none => s.queuePress l key .stale none none
      | some token =>
        if e.age = 255 then s.queuePress l key .stale none none
        else
          match (s.loc l).rot.map[token.val] with
          | none => s.queuePress l key .stale none none
          | some entry =>
            if s.pressInstant e < entry.issued then s.queuePress l key .stale none none
            else s.pressEntry l key e token entry

end Sys2Proof.Machine
end

