-- ==== Sys2Proof/Machine/Walk.lean ====
section
/-! DEFINITION. Classification of an answer at a location, and the start of a walk (R91 to R96). -/

namespace Sys2Proof.Machine

/-- What R94 makes of an answer at a location record: state, cause, and the kind and serial recorded after it. -/
structure Classified where
  state : Presence
  cause : Cause
  kind : Option ModuleKind
  serial : Option (BitVec 32)
  deriving DecidableEq, Repr

/-- The classification table of R94. -/
def Location.classified (x : Location) (id : Identity) : Classified :=
  match ModuleKind.ofCode id.code, x.kind with
  | none, _ => { state := .mismatch, cause := .mismatch, kind := x.kind, serial := x.serial }
  | some k, none => { state := .present, cause := .new, kind := some k, serial := some id.serial }
  | some k, some k' =>
    if k ≠ k' then { state := .mismatch, cause := .mismatch, kind := some k, serial := some id.serial }
    else if x.serial = some id.serial then { state := .present, cause := .returned, kind := some k, serial := some id.serial }
    else { state := .present, cause := .replaced, kind := some k, serial := some id.serial }

/-- The location record after a classification; `taken` for an answer that is a TAKEN (R94, R96). -/
def Location.classify (x : Location) (id : Identity) (taken : Bool) : Location :=
  let c := x.classified id
  { x with
    state := c.state, kind := c.kind, serial := c.serial, miss := 0, ack := x.ack || taken,
    rot := { x.rot with fresh := true, direct := if c.cause = .returned then x.rot.direct else none } }

/-- A classification at a location, with its LOCATION notice (R94 to R96). -/
def State.classifyAt (s : State) (l : Loc) (id : Identity) (taken : Bool) : State :=
  let x := s.loc l
  let c := x.classified id
  let s := s.setLoc l (x.classify id taken)
  if c.state ≠ x.state ∨ c.serial ≠ x.serial then
    s.queueNotice (.location l c.state c.cause (ModuleKind.ofCode id.code) (some id.serial))
  else s

/-- The release phase of a walk: two RELEASE broadcasts, then ENR low for 50 ms (R91, R92). -/
def State.startRelease (s : State) (b : Fin 4) : State :=
  s.modBus b fun c =>
    { c with state := .enrolling, exchange := .none, sent := [.release, .release], waitEnd := none, resettingEnd := none,
             enrLowEnd := some (s.now + 50) }

/-- The bus leaves SERVICE: no sweep is due and no phase expiry runs (R108, R122, R147; assumption 24). -/
def State.leaveService (s : State) (b : Fin 4) : State :=
  (s.modBus b fun c => { c with scheduled := none }).modGovernor b fun g => { g with phaseExpiry := none }

/-- Whether the exchange in progress belongs to a sweep, so that on an ENROLLING bus the walk waits for its end
(R91, R122). -/
def Exchange.ofSweep : Exchange → Bool
  | .visit .. => true
  | .poll .. => true
  | .probeLook .. => true
  | .probeTake .. => true
  | .none => false
  | .walkTake .. => false
  | .walkLook => false

end Sys2Proof.Machine
end

