-- ==== Sys2Proof/Machine/Sweep.lean ====
section
/-! DEFINITION. Sweeps: visits, IDENTIFY poll, refill probe, sweep start and sweep end (R114 to R123). -/

namespace Sys2Proof.Machine

/-- The LAMP frame of a location as its planning left it (R116, R146, R179). -/
def State.lampFrame (s : State) (l : Loc) : AisleFrame :=
  let x := s.loc l
  let g := s.governor l.bus
  .lamp l.node x.rot.face (if x.rot.face.colour.isSome then g.scale else 0) (g.mode == .alternate) (s.bus l.bus).phase
    x.ack x.rot.token

/-- One attempt of a visit: the location is planned and its LAMP frame is sent at once (R44, R116). -/
def State.attempt (s : State) (l : Loc) (second : Bool) : State :=
  let s := s.plan l
  (s.sendFrames l.bus [s.lampFrame l] (.visit l.idx second)).modBus l.bus fun c => { c with sweepVisited := true }

/-- The notices of a sweep end in the order the part takes (assumption 8). -/
def orderNotices (silent ambiguous : List Notice) : List Notice :=
  match silent, ambiguous with
  | [], as => as
  | ss, [] => ss
  | ss, as => if Config.silentBeforeAmbiguous then ss ++ as else as ++ ss

/-- The end of a sweep: its duration, the silent flag, the ambiguity flag, and the next scheduled start
(R114, R118, R121). -/
def State.closeSweep (s : State) (b : Fin 4) : State :=
  let c := s.bus b
  let nowSilent := c.sweepVisited && !c.sweepGood
  let nowAmbiguous := decide (2 ≤ s.countPresence b .lost)
  let silent := if nowSilent && !c.silent then [Notice.bus b .silent none] else []
  let ambiguous := if nowAmbiguous && !c.ambiguous then [Notice.bus b .refillAmbiguous none] else []
  let s := s.setBus b
    { c with exchange := .none, lastDuration := min 65535 (s.now - c.sweepStart), silent := c.silent || nowSilent,
             ambiguous := nowAmbiguous, scheduled := some (c.sweepStart + c.period) }
  s.queueNotices (orderNotices silent ambiguous)

/-- Part 4 of a sweep: with exactly one LOST location the refill probe begins (R115, R120); else the sweep ends. -/
def State.refillPart (s : State) (b : Fin 4) (close : State → State) : State :=
  match s.firstLoc b 0 fun x => x.state == .lost with
  | some i => if s.countPresence b .lost = 1 then s.sendFrames b [.look i.val] (.probeLook i) else close s
  | none => close s

/-- Part 3 of a sweep from index `k` on: in every eighth sweep the LOST locations are polled (R115, R119). DESIGN CHOICE: where the
poll leaves exactly one LOST location, this sweep probes for it as R115 part 4 and R120 say, while the last sentence of R121 names
the end of the next sweep (assumption 33). -/
def State.pollPart (s : State) (b : Fin 4) (k : Nat) (close : State → State) : State :=
  if (s.bus b).counter % 8 = 0 then
    match s.firstLoc b k fun x => x.state == .lost with
    | some i => s.sendFrames b [.identify (i.val + 1)] (.poll i)
    | none => s.refillPart b close
  else s.refillPart b close

/-- Part 2 of a sweep from index `k` on: the next PRESENT or SUSPECT location is visited (R115, R116). -/
def State.visitPart (s : State) (b : Fin 4) (k : Nat) (close : State → State) : State :=
  match s.firstLoc b k Location.visited with
  | some i => s.attempt { bus := b, idx := i } false
  | none => s.pollPart b 0 close

/-- A sweep starts at the present instant: the counter rises, the governor computes, the first exchange is made
(R114, R115). A sweep that makes no exchange ends at once, and its successor is due only after the period. -/
def State.beginSweep (s : State) (b : Fin 4) : State :=
  let s := s.modBus b fun c =>
    { c with counter := (c.counter + 1) % 256, scheduled := none, sweepStart := s.now, sweepVisited := false,
             sweepGood := false }
  (s.governSweep b).visitPart b 0 fun s => s.closeSweep b

/-- The end of a sweep; the next one starts at once if its scheduled start has come (R114). -/
def State.endSweep (s : State) (b : Fin 4) : State :=
  let s := s.closeSweep b
  if (s.bus b).scheduled.any fun t => decide (t ≤ s.now) then s.beginSweep b else s

/-- What follows an exchange of a sweep: on an ENROLLING bus the walk that ENROL asked for starts (R91, R122); else the
sweep goes on with `go`. -/
def State.afterExchange (s : State) (b : Fin 4) (go : State → State) : State :=
  if (s.bus b).state = .enrolling then s.startRelease b else go s

/-- After a visit: the next location's turn (R115). -/
def State.nextVisit (s : State) (b : Fin 4) (i : Fin 62) : State :=
  s.afterExchange b fun s => s.visitPart b (i.val + 1) fun s => s.endSweep b

/-- After a poll: the next LOST location's turn (R119). -/
def State.nextPoll (s : State) (b : Fin 4) (i : Fin 62) : State :=
  s.afterExchange b fun s => s.pollPart b (i.val + 1) fun s => s.endSweep b

/-- After a refill probe: the sweep ends (R115, R120). -/
def State.afterProbe (s : State) (b : Fin 4) : State := s.afterExchange b fun s => s.endSweep b

/-- A good answer to a visit: the miss count is 0 and a SUSPECT location is PRESENT (R116). -/
def Location.answered (x : Location) : Location :=
  { x with miss := 0, state := if x.state = .suspect then .present else x.state }

/-- A failed visit (R117). -/
def Location.failed (x : Location) : Location :=
  let miss := min 3 (x.miss + 1)
  { x with miss := miss, state := if miss = 3 then .lost else .suspect }

/-- A key event with a bit other than the acknowledge bit is accepted and resolved; a repeat is discarded (R123). -/
def State.takeEvent (s : State) (l : Loc) (e : KeyEvent) : State :=
  if e.bit = (s.loc l).ack then s
  else (s.modLoc l fun x => { x with ack := e.bit }).resolvePress l e

/-- The event of a KEYS answer, if it carries one (R123, R179). -/
def State.takeKeys (s : State) (l : Loc) (e : Option KeyEvent) : State :=
  match e with
  | none => s
  | some e => s.takeEvent l e

/-- The visit ends with a good KEYS answer (R116, R118, R123). -/
def State.visitAnswered (s : State) (l : Loc) (e : Option KeyEvent) : State :=
  let s := s.goodAnswer l.bus
  let s := s.modLoc l Location.answered
  let s := s.takeKeys l e
  s.nextVisit l.bus l.idx

/-- A visit has failed (R117). -/
def State.failVisit (s : State) (l : Loc) : State :=
  let s := s.modLoc l Location.failed
  let x := s.loc l
  if x.state = .lost then s.queueNotice (.location l .lost .lost x.kind x.serial) else s

/-- The attempt brought no good answer: the second attempt follows at once, or the visit has failed (R116, R117). With a
walk waiting, no second attempt is made and a failed first attempt counts for nothing (R91, R122). -/
def State.visitUnanswered (s : State) (l : Loc) (second : Bool) : State :=
  if second then (s.failVisit l).nextVisit l.bus l.idx
  else if (s.bus l.bus).state = .enrolling then s.startRelease l.bus
  else s.attempt l true

/-- The scheduled start of a sweep has come on a bus in SERVICE with no sweep in progress (R114). -/
def State.sweepDue (s : State) (b : Fin 4) : Bool :=
  (s.bus b).state == .service && (s.bus b).exchange == .none && (s.bus b).scheduled.any fun t => decide (t ≤ s.now)

end Sys2Proof.Machine
end

