-- ==== Sys2Proof/Machine/BusEvents.lean ====
section
/-! DEFINITION. The commands of the aisle pair: sweep start, answers, window ends, walk phases (R91 to R101, R109, R114 to
R123, R128), and the phase flip (R147). -/

namespace Sys2Proof.Machine

/-! ### The walk -/

/-- TAKE for an address of the address phase (R93). -/
def State.walkTakeAt (s : State) (b : Fin 4) (i : Fin 62) (second : Bool) : State :=
  s.sendFrames b [.take (i.val + 1)] (.walkTake i second)

/-- Completion marks a location that the address phase did not reach (R96, R98 step 1). -/
def State.markAbsent (s : State) (l : Loc) : State :=
  let x := s.loc l
  if x.state = .absent then s
  else
    (s.setLoc l { x with state := .absent, miss := 0, rot := { x.rot with direct := none } }).queueNotice
      (.location l .absent .absent x.kind x.serial)

/-- The locations of a bus from index `k` on, in ascending address order. -/
def locsFrom (b : Fin 4) (k : Nat) : List Loc :=
  ((List.finRange 62).filter fun i => decide (k ≤ i.val)).map fun i => { bus := b, idx := i }

/-- The bus enters SERVICE: counter 0, ambiguity flag clear, first sweep at once (R108, R114). -/
def State.enterService (s : State) (b : Fin 4) : State :=
  (s.modBus b fun c => { c with state := .service, exchange := .none, counter := 0, ambiguous := false }).beginSweep b

/-- Completion of a walk whose address phase classified `k` addresses (R98). -/
def State.completeWalk (s : State) (b : Fin 4) (k : Nat) : State :=
  let s := (locsFrom b k).foldl State.markAbsent s
  let s := s.queueNotice (.bus b .enrolDone (some k))
  s.enterService b

/-- A good TAKEN in the address phase: classification, then the next address or the end probe (R93, R97). -/
def State.walkTaken (s : State) (b : Fin 4) (i : Fin 62) (id : Identity) : State :=
  let s := (s.goodAnswer b).classifyAt { bus := b, idx := i } id true
  if h : i.val + 1 < 62 then s.walkTakeAt b ⟨i.val + 1, h⟩ false else s.sendFrames b [.look 62] .walkLook

/-! ### The refill probe -/

/-- A good HERE at the lost node: the acknowledge bit becomes 1 and TAKE follows, unless a walk waits (R120, R122). -/
def State.probeHere (s : State) (b : Fin 4) (i : Fin 62) : State :=
  let s := (s.goodAnswer b).modLoc { bus := b, idx := i } fun x => { x with ack := true }
  s.afterExchange b fun s => s.sendFrames b [.take (i.val + 1)] (.probeTake i false)

/-- A good TAKEN in the refill probe is classified, and the sweep ends (R120). -/
def State.probeTaken (s : State) (b : Fin 4) (i : Fin 62) (id : Identity) : State :=
  ((s.goodAnswer b).classifyAt { bus := b, idx := i } id true).afterProbe b

/-! ### The commands -/

/-- SWEEP_START (R114). -/
def execSweepStart (b : Fin 4) (s : State) : Host.Outcome State Fault Refusal :=
  .next (if s.sweepDue b then s.beginSweep b else s)

/-- KEYS_ANSWER: bytes that are no good answer are no answer (R111). -/
def execKeysAnswer (b : Fin 4) (frame : List PairByte) (s : State) : Host.Outcome State Fault Refusal :=
  .next <|
    match (s.bus b).exchange with
    | .visit i _ =>
      match (goodBytes frame).bind (readKeys (i.val + 1)) with
      | some e => s.visitAnswered { bus := b, idx := i } e
      | none => s
    | _ => s

/-- KEYS_WINDOW_EXPIRY (R116, R117). -/
def execKeysWindowExpiry (b : Fin 4) (s : State) : Host.Outcome State Fault Refusal :=
  .next <|
    match (s.bus b).exchange with
    | .visit i second => s.visitUnanswered { bus := b, idx := i } second
    | _ => s

/-- IDENTIFY_REPLY: the reply is classified at the LOST location (R119). -/
def execIdentifyReply (b : Fin 4) (frame : List PairByte) (s : State) : Host.Outcome State Fault Refusal :=
  .next <|
    match (s.bus b).exchange with
    | .poll i =>
      match (goodBytes frame).bind (readIdentifyReply (i.val + 1)) with
      | some id => ((s.goodAnswer b).classifyAt { bus := b, idx := i } id false).nextPoll b i
      | none => s
    | _ => s

/-- IDENTIFY_WINDOW_EXPIRY: the location stays LOST (R119). -/
def execIdentifyWindowExpiry (b : Fin 4) (s : State) : Host.Outcome State Fault Refusal :=
  .next <|
    match (s.bus b).exchange with
    | .poll i => s.nextPoll b i
    | _ => s

/-- HERE_ANSWER: in the refill probe (R120) or at the end probe of a walk (R97). -/
def execHereAnswer (b : Fin 4) (frame : List PairByte) (s : State) : Host.Outcome State Fault Refusal :=
  .next <|
    match (s.bus b).exchange with
    | .probeLook i => if (goodBytes frame).any (readHere (i.val + 1)) then s.probeHere b i else s
    | .walkLook =>
      if (goodBytes frame).any (readHere 63) then ((s.goodAnswer b).queueNotice (.bus b .chainTooLong none)).completeWalk b 62 else s
    | _ => s

/-- HERE_WINDOW_EXPIRY: the probe ends, or the walk goes on to completion (R97, R120). -/
def execHereWindowExpiry (b : Fin 4) (s : State) : Host.Outcome State Fault Refusal :=
  .next <|
    match (s.bus b).exchange with
    | .probeLook _ => s.afterProbe b
    | .walkLook => s.completeWalk b 62
    | _ => s

/-- ENR_LOW_END: ENR goes high and the address phase begins with TAKE(1) (R92, R93). -/
def execEnrLowEnd (b : Fin 4) (s : State) : Host.Outcome State Fault Refusal :=
  .next <|
    if (s.bus b).enrLowEnd.any fun t => decide (t ≤ s.now) then
      (s.modBus b fun c => { c with enrLowEnd := none }).walkTakeAt b 0 false
    else s

/-- TAKEN_ANSWER: in the address phase (R93) or in the refill probe (R120). -/
def execTakenAnswer (b : Fin 4) (frame : List PairByte) (s : State) : Host.Outcome State Fault Refusal :=
  .next <|
    match (s.bus b).exchange with
    | .walkTake i _ =>
      match (goodBytes frame).bind (readTaken (i.val + 1)) with
      | some id => s.walkTaken b i id
      | none => s
    | .probeTake i _ =>
      match (goodBytes frame).bind (readTaken (i.val + 1)) with
      | some id => s.probeTaken b i id
      | none => s
    | _ => s

/-- TAKEN_WINDOW_EXPIRY: TAKE is sent once more, or the address phase or the probe ends (R93, R98, R120). With a walk
waiting, the retry of a probe is not sent (R122). -/
def execTakenWindowExpiry (b : Fin 4) (s : State) : Host.Outcome State Fault Refusal :=
  .next <|
    match (s.bus b).exchange with
    | .walkTake i second => if second then s.completeWalk b i.val else s.walkTakeAt b i true
    | .probeTake i second =>
      if second then s.afterProbe b
      else s.afterExchange b fun s => s.sendFrames b [.take (i.val + 1)] (.probeTake i true)
    | _ => s

/-- ENROL_WAIT_END: the walk starts with its release phase (R109). -/
def execEnrolWaitEnd (b : Fin 4) (s : State) : Host.Outcome State Fault Refusal :=
  .next (if (s.bus b).waitEnd.any fun t => decide (t ≤ s.now) then s.startRelease b else s)

/-- RESETTING_END: the feed closes, the bus enters ENROLLING and the walk starts (R110, R128, R136). -/
def execResettingEnd (b : Fin 4) (s : State) : Host.Outcome State Fault Refusal :=
  .next <|
    if (s.bus b).resettingEnd.any fun t => decide (t ≤ s.now) then
      (s.modFeed b fun f => { f with switchClosed := true }).startRelease b
    else s

/-- PHASE_FLIP (R147). -/
def execPhaseFlip (b : Fin 4) (s : State) : Host.Outcome State Fault Refusal :=
  .next (s.flipPhase b)

end Sys2Proof.Machine
end

