-- ==== Sys2Proof/Machine/FeedEvents.lean ====
section
/-! DEFINITION. The feed monitor: samples, escalation, brownout and recovery (R130 to R139). -/

namespace Sys2Proof.Machine

/-- The level of a supply in millivolts (R131). -/
def levelOf (supply : Nat) : Nat := if supply < 15750 then 0 else min 15 ((supply - 15750) / 750 + 1)

/-- A feed is closed only in these states, and only there does a level-0 sample count (R132, R136). -/
def BusState.powered : BusState → Bool
  | .enrolling => true
  | .service => true
  | .off => false
  | .unpowered => false
  | .resetting => false
  | .brownout => false

/-- The states that wait for their supply and sample back to back (R133, R139). -/
def BusState.awaitsSupply : BusState → Bool
  | .unpowered => true
  | .brownout => true
  | .off => false
  | .resetting => false
  | .enrolling => false
  | .service => false

/-- The next sample as reckoned at a completion at `now` of a sample that started at `start` (R133). -/
def nextSample (state : BusState) (f : Feed) (start now : Instant) : Option Instant :=
  if state = .off then none
  else if state.awaitsSupply then some now
  else
    match f.mode with
    | .continuous => some now
    | .periodic => if f.escalated then some now else some (start + 2000)
    | .off => none

/-- The zero-run count after a sample (R132 step 3). -/
def zeroRunAfter (state : BusState) (level old : Nat) : Nat :=
  if level = 0 then if state.powered then min 4 (old + 1) else old else 0

/-- The escalation flag after a sample (R134). -/
def escalatedAfter (mode : SamplingMode) (level : Nat) (old : Bool) : Bool :=
  if level = 0 then old || mode == .periodic else if 2 ≤ level then false else old

/-- Steps 1 to 4 of R132: BAND, the last level, the zero-run count, the escalation flag. -/
def State.recordSample (s : State) (b : Fin 4) (level : Nat) : State :=
  let old := (s.feed b).level
  let s := s.modFeed b fun f =>
    { f with busy := false, lastStart := f.runStart, runStart := none, level := level,
             zeroRun := zeroRunAfter (s.bus b).state level f.zeroRun,
             escalated := escalatedAfter f.mode level f.escalated }
  if bandOf level ≠ bandOf old then s.queueNotice (.supply b .band level none) else s

/-- A location that a brownout makes LOST (R138). -/
def Location.losesFeed (x : Location) : Bool := x.state == .present || x.state == .suspect || x.state == .mismatch

/-- The record after a brownout (R138). -/
def Location.afterBrownout (x : Location) : Location :=
  if x.losesFeed then { x with state := .lost, miss := 3 } else x

/-- The number of locations a brownout makes LOST (R137 step 5). -/
def State.lostCount (s : State) (b : Fin 4) : Nat := (s.locs[b.val]).toList.countP Location.losesFeed

/-- A brownout is declared (R137, R138). -/
def State.declareBrownout (s : State) (b : Fin 4) : State :=
  let lost := s.lostCount b
  let s := s.modFeed b fun f => { f with switchClosed := false, brownout := true, zeroRun := 0 }
  let s := s.modBus b fun c =>
    { c with state := .brownout, exchange := .none, scheduled := none, waitEnd := none, enrLowEnd := none }
  let s := s.modGovernor b fun g => { g with phaseExpiry := none }
  let s := s.mapBusLocs b Location.afterBrownout
  s.queueNotice (.supply b .brownout 0 (some lost))

/-- A bus that waits for its supply recovers or starts up (R109, R139). -/
def State.recover (s : State) (b : Fin 4) (level : Nat) : State :=
  let wasBrownout := (s.bus b).state == .brownout
  let s := s.modFeed b fun f => { f with switchClosed := true, brownout := f.brownout && !wasBrownout }
  let s := if wasBrownout then s.queueNotice (.supply b .recovered level none) else s
  s.modBus b fun c => { c with state := .enrolling, waitEnd := some (s.now + 200) }

/-- Step 5 of R132: the check for brownout or for recovery, in the bus state that holds. -/
def State.supplyCheck (s : State) (b : Fin 4) (level : Nat) : State :=
  if (s.bus b).state.powered then
    if level = 0 ∧ (s.feed b).zeroRun = 4 then s.declareBrownout b else s
  else if (s.bus b).state.awaitsSupply then
    if 2 ≤ level then s.recover b level else s
  else s

/-- The processing of a completed sample that started at `start` (R132). -/
def State.completeSample (s : State) (b : Fin 4) (start : Instant) (level : Nat) : State :=
  let s := (s.recordSample b level).supplyCheck b level
  s.modFeed b fun f => { f with next := nextSample (s.bus b).state f start s.now }

/-- SAMPLE_START: a due sample starts (R132, R133). DESIGN CHOICE: no next sample is held while one runs (assumption 34). -/
def execSampleStart (b : Fin 4) (s : State) : Host.Outcome State Fault Refusal :=
  .next <|
    if !(s.feed b).busy && (s.feed b).next.any fun t => decide (t ≤ s.now) then
      s.modFeed b fun f => { f with busy := true, next := none, runStart := some s.now }
    else s

/-- SAMPLE_COMPLETE: 8 ms after its start the sample is processed (R132). -/
def execSampleComplete (b : Fin 4) (supply : Nat) (s : State) : Host.Outcome State Fault Refusal :=
  .next <|
    match (s.feed b).runStart with
    | some start => if start + 8 ≤ s.now then s.completeSample b start (levelOf supply) else s
    | none => s

end Sys2Proof.Machine
end

