-- ==== Sys2Proof/Machine/DisplayRequests.lean ====
section
/-! DEFINITION. The requests of the display scheduler: SET_TIMING, DIRECT_SET, DIRECT_END (R61 to R63), and
QUERY_LOCATION of the location map (R102). -/

namespace Sys2Proof.Machine

/-- The settings SET_TIMING takes (R61). -/
def clampedTiming (cycle minDwell guard hold linger : Nat) : Timing :=
  { cycle := clamp 800 4000 cycle, minDwell := clamp 250 1000 minDwell, guard := clamp 0 400 guard,
    hold := clamp 1000 10000 hold, linger := clamp 0 2000 linger }

/-- The five values, in order (R61). -/
def Timing.fields (t : Timing) : List Field := [.u16 t.cycle, .u16 t.minDwell, .u16 t.guard, .u16 t.hold, .u16 t.linger]

/-- SET_TIMING (R61). -/
def State.setTiming (s : State) (cycle minDwell guard hold linger : Nat) : State × Answer :=
  let t := clampedTiming cycle minDwell guard hold linger
  ({ s with timing := t }, answerOf 0x05 .ok t.fields)

/-- A lamp colour field, 0 to 7 with 0 for none (R62, R176); the outer `none` is a value above 7. -/
def lampOf (n : Nat) : Option (Option Colour) := if n = 0 then some none else (Colour.ofCode n).map some

/-- The pattern of DIRECT_SET, if its fields are in range (R62 check 2). -/
def patternOf (colour char0 char1 char2 blink : Nat) : Option Face :=
  match lampOf colour, Glyph.ofCode char0, Glyph.ofCode char1, Glyph.ofCode char2, Blink.ofCode blink with
  | some c, some g0, some g1, some g2, some k =>
      some { colour := c, chars := { left := g0, mid := g1, right := g2 }, blink := k }
  | _, _, _, _, _ => none

/-- DIRECT_SET (R62). -/
def State.directSet (s : State) (bus node colour char0 char1 char2 blink : Nat) : State × Answer :=
  match s.locOf bus node with
  | none => s.refuse 0x14 .noLocation
  | some l =>
    match patternOf colour char0 char1 char2 blink with
    | none => s.refuse 0x14 .badField
    | some p =>
      if (s.bus l.bus).state ≠ .service then s.refuse 0x14 .busState
      else if (s.loc l).visited = false then s.refuse 0x14 .locationState
      else (s.modRot l fun r => { r with direct := some p, fresh := true }, answerOf 0x14 .ok [])

/-- DIRECT_END (R63). -/
def State.directEnd (s : State) (bus node : Nat) : State × Answer :=
  match s.locOf bus node with
  | none => s.refuse 0x15 .noLocation
  | some l =>
    if (s.loc l).rot.direct.isNone then s.refuse 0x15 .locationState
    else (s.modRot l fun r => { r with direct := none }, answerOf 0x15 .ok [])

/-- The fields of QUERY_LOCATION's answer (R102). -/
def State.locationFields (s : State) (l : Loc) : List Field :=
  let x := s.loc l
  let r := x.rot
  locFields l ++ .u8 x.state.code :: optFields x.kind (fun k => [.u8 k.code]) ++ optFields x.serial (fun n => [.u32 n])
    ++ [.u8 x.miss, flagField x.ack, .u8 r.token.val]
    ++ optFields r.meaning (fun m => [.u8 m.code]) ++ faceFields r.face
    ++ optFields r.slotStart (fun t => [stampField t])
    ++ optFields r.hold (fun h => [.u16 h.task, stampField h.expiry])
    ++ optFields r.linger (fun g => [.u16 g.task, .u8 g.slot.val, stampField g.expiry])
    ++ optFields r.direct faceFields
    ++ .u8 x.tasks.length :: x.tasks.map Field.u16

/-- QUERY_LOCATION (R102). -/
def State.queryLocation (s : State) (bus node : Nat) : State × Answer :=
  match s.locOf bus node with
  | none => s.refuse 0x13 .noLocation
  | some l => (s, answerOf 0x13 .ok (s.locationFields l))

def execSetTiming (cycle minDwell guard hold linger : Nat) (s : State) : Host.Outcome State Fault Refusal :=
  .next (s.request fun s => s.setTiming cycle minDwell guard hold linger)

def execDirectSet (bus node colour char0 char1 char2 blink : Nat) (s : State) : Host.Outcome State Fault Refusal :=
  .next (s.request fun s => s.directSet bus node colour char0 char1 char2 blink)

def execDirectEnd (bus node : Nat) (s : State) : Host.Outcome State Fault Refusal :=
  .next (s.request fun s => s.directEnd bus node)

def execQueryLocation (bus node : Nat) (s : State) : Host.Outcome State Fault Refusal :=
  .next (s.request fun s => s.queryLocation bus node)

end Sys2Proof.Machine
end

