-- ==== Sys2Proof/Machine/Clock.lean ====
section
/-! DEFINITION. The clock of the host link: LDI sampled at the rising edges of LCK, and bits into bytes (R162). -/

namespace Sys2Proof.Machine

/-- The levels of LDI at the rising edges of LCK, with LCK at `lck` before the first of the levels (R162). -/
def risingBits (lck : Bool) (wave : List LinkPins) : List Bool :=
  match wave with
  | [] => []
  | p :: ps => if !lck && p.lck then p.ldi :: risingBits p.lck ps else risingBits p.lck ps

/-- The number of falling edges of LCK, with LCK at `lck` before the first of the levels (R162). -/
def fallingEdges (lck : Bool) (wave : List LinkPins) : Nat :=
  match wave with
  | [] => 0
  | p :: ps => (if lck && !p.lck then 1 else 0) + fallingEdges p.lck ps

/-- Bits shifted into a byte, most significant bit first (R162). -/
def byteOfBits (bits : List Bool) : Byte := bits.foldl BitVec.shiftConcat 0#8

/-- Eight bits to a byte, without gaps; a byte that is not clocked in full does not count (R162). -/
def wholeBytes (bits : List Bool) : List Byte :=
  match bits with
  | b7 :: b6 :: b5 :: b4 :: b3 :: b2 :: b1 :: b0 :: rest => byteOfBits [b7, b6, b5, b4, b3, b2, b1, b0] :: wholeBytes rest
  | _ => []

/-- The bytes clocked in full on LDI (R162). -/
def ldiBytes (lck : Bool) (wave : List LinkPins) : List Byte := wholeBytes (risingBits lck wave)

/-- The levels of a host that sends bytes in SPI mode 0: each bit, most significant first, is put on LDI with LCK low, and LCK
rises (R162). -/
def linkWave (bytes : List Byte) : List LinkPins :=
  bytes.flatMap fun x => (List.finRange 8).flatMap fun (i : Fin 8) =>
    [{ lck := false, ldi := x.getMsbD i.val }, { lck := true, ldi := x.getMsbD i.val }]

end Sys2Proof.Machine
end

