-- ==== Sys2Proof/Machine/Records.lean ====
section
/-! DEFINITION. Answers, notices and outbound records as bytes (R159, R164, R168, R176, R177). -/

namespace Sys2Proof.Machine

/-- The bytes of a field, least significant first (R176). -/
def Field.bytes : Field → List Byte
  | .u8 n => u8Bytes n
  | .u16 n => u16Bytes n
  | .u32 n => [n.extractLsb' 0 8, n.extractLsb' 8 8, n.extractLsb' 16 8, n.extractLsb' 24 8]

/-- The fields of a notice in the order of R159. -/
def Notice.fields : Notice → List Field
  | .taskClosed task slot loc outcome requested picked =>
      [.u16 task, .u8 slot.val] ++ locFields loc ++ [.u8 outcome.code, .u16 requested, .u16 picked]
  | .taskPartial task slot loc picked remaining =>
      [.u16 task, .u8 slot.val] ++ locFields loc ++ [.u16 picked, .u16 remaining]
  | .press loc key outcome task slot =>
      locFields loc ++ [.u8 key.code, .u8 outcome.code] ++ optFields task (fun t => [.u16 t])
        ++ optFields slot (fun i => [.u8 i.val])
  | .location loc state cause kind serial =>
      locFields loc ++ [.u8 state.code, .u8 cause.code] ++ optFields kind (fun k => [.u8 k.code])
        ++ optFields serial (fun n => [.u32 n])
  | .bus b event count => [.u8 b.val, .u8 event.code] ++ optFields count (fun n => [.u8 n])
  | .supply b event level lost => [.u8 b.val, .u8 event.code, .u8 level] ++ optFields lost (fun n => [.u8 n])
  | .session slot task => [.u8 slot.val, .u8 0, .u16 task]

/-- The kind byte of a notice record (R164). -/
def Notice.kindByte : Notice → Nat
  | .taskClosed .. => 0x41
  | .taskPartial .. => 0x42
  | .press .. => 0x43
  | .location .. => 0x44
  | .bus .. => 0x45
  | .supply .. => 0x46
  | .session .. => 0x47

/-- A record on the link: kind, length, body (R177). -/
def recordBytes (kind : Nat) (body : List Byte) : List Byte :=
  BitVec.ofNat 8 kind :: BitVec.ofNat 8 body.length :: body

/-- An answer's bytes: its body is the result byte followed by its fields (R168, R177). -/
def Answer.bytes (a : Answer) : List Byte :=
  recordBytes a.kind (u8Bytes a.result.code ++ (a.fields.map Field.bytes).flatten)

/-- A notice's bytes: its body is its time stamp followed by its fields (R164, R177). -/
def Entry.bytes (e : Entry) : List Byte :=
  recordBytes e.notice.kindByte (u16Bytes e.stamp ++ (e.notice.fields.map Field.bytes).flatten)

/-- The bytes of the outbound record (R164); the empty record has kind 0 and length 0. -/
def Outbound.bytes : Outbound → List Byte
  | .empty => recordBytes 0 []
  | .answer a => a.bytes
  | .notice e => e.bytes

end Sys2Proof.Machine
end

