-- ==== Sys2Proof/Machine/Flags.lean ====
section
/-! DEFINITION. The status byte, the lines the part drives, and the reset line conditions (R163, R170, R171, R174,
R177, 06_aisle_buses.md section 6.7). -/

namespace Sys2Proof.Machine

/-- The status byte formed from the state at the fall of LCS (R163), laid out as R177 gives. -/
def State.statusByte (s : State) : Byte :=
  BitVec.ofNat 8 (64 * s.link.lastOutcome.code + 8 * s.link.replies.length + 4 * s.notices.candidate.isSome.toNat
    + 2 * s.notices.lost.toNat + 1)

/-- ATTN is asserted (R170, R174). -/
def State.attn (s : State) : Bool :=
  !s.held && (!s.link.replies.isEmpty || s.notices.candidate.isSome || s.notices.transmitting.isSome)

/-- RDY is high (R171, R174). -/
def State.rdy (s : State) : Bool := s.ready

/-- Byte `n` of the transaction on LDO: the status byte, the outbound record, and then 0x00 for as long as the host keeps
clocking (R162, R177); none while LDO is high-impedance (R162, R174; assumption 27). -/
def State.ldo (s : State) (n : Nat) : Option Byte :=
  if s.held || s.lcs then none else s.link.outbound.map fun o => (s.link.status :: o.bytes).getD n 0

/-- The level of LDO at rising edge `edge + 1` of LCK in the transaction: bytes travel most significant bit first (R162). -/
def State.ldoBit (s : State) (edge : Nat) : Option Bool := (s.ldo (edge / 8)).map fun x => x.getMsbD (edge % 8)

/-- The level of LDO after the levels of LCK since the fall of LCS: the first bit stands from the fall of LCS on, and each falling
edge of LCK brings the next (R162). -/
def State.ldoAfter (s : State) (wave : List LinkPins) : Option Bool := s.ldoBit (fallingEdges false wave)

/-- Bit time `n` of a bus from the start of its last sending on: the driver is enabled only while the part sends a frame, and
never in reset or while the bus is OFF (R107, R111, 6.7). -/
def State.pairSlot (s : State) (b : Fin 4) (n : Nat) : PairSlot :=
  if s.held || (s.bus b).state == .off then .idle else (sendSlots (s.bus b).sent).getD n .idle

/-- xDE in that bit time (R107, R111, 6.7). -/
def State.de (s : State) (b : Fin 4) (n : Nat) : Bool := (s.pairSlot b n).de

/-- xFSW is high, closing the feed (R136, 6.7). -/
def State.fsw (s : State) (b : Fin 4) : Bool := (s.feed b).switchClosed

/-- The level of xENR (R92, R107, R109, R113, 6.7): low while OFF, in reset and during the ENR interval of a walk,
high otherwise while ENROLLING or in SERVICE; unstated in the other states (assumption 10). -/
def State.enr (s : State) (b : Fin 4) : Bool :=
  if s.held then false
  else
    match (s.bus b).state with
    | .off => false
    | .enrolling => (s.bus b).enrLowEnd.isNone
    | .service => true
    | .unpowered => Config.enrLevel BusState.unpowered.code
    | .resetting => Config.enrLevel BusState.resetting.code
    | .brownout => Config.enrLevel BusState.brownout.code

end Sys2Proof.Machine
end

