-- ==== Sys2Proof/Machine/BusRequests.lean ====
section
/-! DEFINITION. The requests on a bus: SET_SWEEP, SET_FEED, ENROL, RESET_BUS, QUERY_BUS (R101, R126 to R128, R140). -/

namespace Sys2Proof.Machine

/-- A bus request on its bus; a bus number above 3 is refused with BAD_FIELD (R101, R126, R127, R128, R140). -/
def State.withBus (s : State) (kind bus : Nat) (f : Fin 4 → State × Answer) : State × Answer :=
  match busOf bus with
  | none => s.refuse kind .badField
  | some b => f b

/-- SET_SWEEP (R126). -/
def State.setSweep (s : State) (bus period : Nat) : State × Answer :=
  s.withBus 0x06 bus fun b =>
    if s.inService b = false then s.refuse 0x06 .busState
    else
      (s.modBus b fun c => { c with period := clamp 20 250 period },
        answerOf 0x06 .ok [.u16 (clamp 20 250 period)])

/-- The next sample after SET_FEED selected `mode`, at `now`, on a bus in the given state (R133, R140). A running
sample decides at its completion, an unchanged mode changes nothing, and a bus that waits for its supply goes on
sampling back to back. -/
def nextAfterSelect (state : BusState) (f : Feed) (mode : SamplingMode) (now : Instant) : Option Instant :=
  if f.busy || mode == f.mode || state == .unpowered || state == .brownout then f.next
  else
    match mode with
    | .off => none
    | .continuous => some now
    | .periodic =>
      match f.lastStart with
      | none => some now
      | some t => some (max now (t + 2000))

/-- A feed monitor after SET_FEED (R133, R134, R140). -/
def Feed.select (f : Feed) (state : BusState) (mode : SamplingMode) (now : Instant) : Feed :=
  { f with mode := mode, escalated := f.escalated && mode == .periodic, next := nextAfterSelect state f mode now }

/-- SET_FEED (R140). -/
def State.setFeedRequest (s : State) (bus capacity mode : Nat) : State × Answer :=
  s.withBus 0x07 bus fun b =>
    match SamplingMode.ofCode mode with
    | none => s.refuse 0x07 .badField
    | some m =>
      if s.inService b = false then s.refuse 0x07 .busState
      else
        let steps := clamp 50 800 capacity
        ((s.modGovernor b fun g => { g with capacity := 10 * steps }).modFeed b fun f =>
            f.select (s.bus b).state m s.now,
          answerOf 0x07 .ok [.u16 steps, .u8 m.code])

/-- The number of PRESENT or SUSPECT locations of a bus (R101). -/
def State.visitedCount (s : State) (b : Fin 4) : Nat := (s.locs[b.val]).toList.countP Location.visited

/-- A walk is asked for on a bus in SERVICE: with an exchange in progress it waits for that exchange's end
(R91, R122). -/
def State.startEnrol (s : State) (b : Fin 4) : State :=
  let s := (s.leaveService b).modBus b fun c => { c with state := .enrolling }
  if (s.bus b).exchange.ofSweep then s else s.startRelease b

/-- ENROL (R101). -/
def State.enrolRequest (s : State) (bus : Nat) : State × Answer :=
  s.withBus 0x10 bus fun b =>
    if (s.bus b).state = .enrolling then s.refuse 0x10 .busy
    else if (s.bus b).state ≠ .service then s.refuse 0x10 .busState
    else (s.startEnrol b, answerOf 0x10 .ok [.u8 (s.visitedCount b)])

/-- The bus opens its feed and enters RESETTING for 500 ms, abandoning its sweep, walk or wait (R110, R122, R128). -/
def State.enterResetting (s : State) (b : Fin 4) : State :=
  ((s.leaveService b).modBus b fun c =>
      { c with state := .resetting, exchange := .none, waitEnd := none, enrLowEnd := none,
               resettingEnd := some (s.now + 500) }).modFeed b fun f => { f with switchClosed := false }

/-- What RESET_BUS clears in every state it is taken in (R128). -/
def State.clearBus (s : State) (b : Fin 4) : State :=
  let s := s.modBus b fun c => { c with silent := false, phase := false }
  let s := s.modGovernor b fun g => { g with mode := .none, scale := 0, overload := false, phaseExpiry := none }
  s.modFeed b fun f => { f with zeroRun := 0 }

/-- RESET_BUS (R128). -/
def State.resetBusRequest (s : State) (bus : Nat) : State × Answer :=
  s.withBus 0x11 bus fun b =>
    let state := (s.bus b).state
    let ok := answerOf 0x11 .ok [.u8 state.code]
    match state with
    | .service => ((s.clearBus b).enterResetting b, ok)
    | .enrolling => ((s.clearBus b).enterResetting b, ok)
    | .resetting => ((s.clearBus b).enterResetting b, ok)
    | .brownout => (s.clearBus b, ok)
    | .off => s.refuse 0x11 .busState
    | .unpowered => s.refuse 0x11 .busState

/-- The fields of QUERY_BUS's answer (R127). -/
def State.busFields (s : State) (b : Fin 4) : List Field :=
  let c := s.bus b
  let f := s.feed b
  let g := s.governor b
  [.u8 b.val, .u8 c.state.code, .u16 c.period, .u16 c.lastDuration, .u8 (s.countPresence b .absent),
    .u8 (s.countPresence b .present), .u8 (s.countPresence b .suspect), .u8 (s.countPresence b .lost),
    .u8 (s.countPresence b .mismatch), flagField c.silent, flagField c.phase, .u8 f.mode.code, flagField f.busy,
    .u8 f.level, flagField f.brownout, .u8 g.mode.code, .u8 g.scale, flagField g.overload]

/-- QUERY_BUS (R127). -/
def State.queryBus (s : State) (bus : Nat) : State × Answer :=
  s.withBus 0x12 bus fun b => (s, answerOf 0x12 .ok (s.busFields b))

def execSetSweep (bus period : Nat) (s : State) : Host.Outcome State Fault Refusal :=
  .next (s.request fun s => s.setSweep bus period)

def execSetFeed (bus capacity mode : Nat) (s : State) : Host.Outcome State Fault Refusal :=
  .next (s.request fun s => s.setFeedRequest bus capacity mode)

def execEnrol (bus : Nat) (s : State) : Host.Outcome State Fault Refusal :=
  .next (s.request fun s => s.enrolRequest bus)

def execResetBus (bus : Nat) (s : State) : Host.Outcome State Fault Refusal :=
  .next (s.request fun s => s.resetBusRequest bus)

def execQueryBus (bus : Nat) (s : State) : Host.Outcome State Fault Refusal :=
  .next (s.request fun s => s.queryBus bus)

end Sys2Proof.Machine
end

