-- ==== Sys2Proof/Machine/TaskRequests.lean ====
section
/-! DEFINITION. The task requests (chapter 2). -/

namespace Sys2Proof.Machine

/-- Check 7 of R27 for a session and a predecessor field; the refusal it makes, if any. -/
def State.predRefusal (s : State) (slot : Fin 8) (pred : Nat) : Option (Reason × List Field) :=
  if pred = 0 then none
  else
    match s.findTask pred with
    | none => some (.noTask, [])
    | some p =>
      if p.slot ≠ slot ∨ p.live = false then some (.taskState, [])
      else p.succ.map fun q => (.chainTaken, [.u16 q])

/-- The number of CLOSED records (R27 check 8, R172). -/
def State.closedCount (s : State) : Nat := s.tasks.countP fun t => t.state == .closed

/-- The new record (R28). -/
def newTask (id : Nat) (slot : Fin 8) (l : Loc) (requested : Nat) (mode : ShortMode) (pred : Nat) : Task :=
  { id := id, slot := slot, loc := l, requested := requested, picked := 0, offered := requested, shortMode := mode,
    state := if pred = 0 then .opened else .waiting, outcome := none, pred := if pred = 0 then none else some pred,
    succ := none, amended := none, closure := none }

/-- The record is filled, linked behind its predecessor and appended to its location's list (R28). -/
def State.placeTask (s : State) (t : Task) : State :=
  let s := match t.pred with
    | none => s
    | some p => s.updTask p fun x => { x with succ := some t.id }
  let s := { s with tasks := s.tasks ++ [t] }
  s.modLoc t.loc fun x => { x with tasks := x.tasks ++ [t.id] }

/-- Checks 7 to 9 of R27, then R28. -/
def State.postAt (s : State) (id : Nat) (slot : Fin 8) (l : Loc) (requested : Nat) (mode : ShortMode) (pred : Nat) :
    State × Answer :=
  match s.predRefusal slot pred with
  | some (reason, fields) => s.refuse 0x30 reason fields
  | none =>
    if 512 ≤ s.tasks.length then s.refuse 0x30 .storeFull [.u16 s.closedCount]
    else if 8 ≤ (s.loc l).tasks.length then s.refuse 0x30 .listFull
    else
      let t := newTask id slot l requested mode pred
      (s.placeTask t, answerOf 0x30 .ok [.u16 id, .u8 t.state.code, .u8 ((s.loc l).tasks.length + 1)])

/-- POST_TASK (R27, R28). -/
def State.postTask (s : State) (id slot bus node requested shortMode pred : Nat) : State × Answer :=
  if id = 0 ∨ 65535 < id then s.refuse 0x30 .badField
  else
    match s.findTask id with
    | some t => s.refuse 0x30 .taskExists [.u8 t.state.code]
    | none =>
      match slotOf slot with
      | none => s.refuse 0x30 .badField
      | some i =>
        if (s.session i).state = .free then s.refuse 0x30 .noSession
        else
          match s.locOf bus node with
          | none => s.refuse 0x30 .noLocation
          | some l =>
            if (s.session i).covers l = false then s.refuse 0x30 .notPermitted
            else if requested = 0 ∨ 999 < requested then s.refuse 0x30 .badField
            else
              match ShortMode.ofCode shortMode with
              | none => s.refuse 0x30 .badField
              | some mode => s.postAt id i l requested mode pred

/-- The outcome of a CLOSED record as a refusal carries it (R32, R34). -/
def Task.outcomeFields (t : Task) : List Field := [.u8 ((t.outcome.map TaskOutcome.code).getD 0)]

/-- The change of an amendment to the record (R33). -/
def Task.amend (t : Task) (requested : Nat) (now : Instant) : Task :=
  { t with requested := requested, offered := requested - t.picked, amended := some now }

/-- The PRESS SUPERSEDED notices of an amendment, one per pending entry removed (R13, R33). -/
def State.supersede (s : State) (t : Task) : State :=
  (s.dropPending t).queueNotices
    (List.replicate (s.pendingCount t) (.press t.loc .confirm .superseded (some t.id) (some t.slot)))

/-- AMEND_TASK (R32, R33). -/
def State.amendTask (s : State) (id requested : Nat) : State × Answer :=
  match s.findTask id with
  | none => s.refuse 0x31 .noTask
  | some t =>
    if t.live = false then s.refuse 0x31 .taskState t.outcomeFields
    else if requested ≤ t.picked ∨ 999 < requested then s.refuse 0x31 .badField [.u16 t.picked]
    else
      let r := s.updTask id fun x => x.amend requested s.now
      let r := r.endHold t.loc id
      (r.supersede t,
        answerOf 0x31 .ok [.u16 requested, .u16 t.picked, .u16 (requested - t.picked), .u8 (s.pendingCount t)])

/-- The chain of a withdrawn task is spliced around it (R35). -/
def State.splice (s : State) (t : Task) : State :=
  let s := match t.pred with
    | none => s
    | some p => s.updTask p fun x => { x with succ := t.succ }
  match t.pred, t.succ with
  | none, succ => s.release succ
  | some _, none => s
  | some p, some q => s.updTask q fun x => { x with pred := some p }

/-- The tasks from `id` along successor links, at most `fuel` of them (R36). -/
def State.chainFrom (s : State) : Nat → Nat → List Task
  | 0, _ => []
  | fuel + 1, id =>
    match s.findTask id with
    | none => []
    | some t =>
      t :: match t.succ with
        | none => []
        | some q => s.chainFrom fuel q

/-- A withdrawal without cascade (R35). -/
def State.withdrawOne (s : State) (t : Task) : State := (s.splice t).freeTask t

/-- The chain before a cascade ends at the predecessor (R36). -/
def State.cutBefore (s : State) (t : Task) : State :=
  match t.pred with
  | none => s
  | some p => s.updTask p fun x => { x with succ := none }

/-- WITHDRAW_TASK (R34 to R36). -/
def State.withdrawTask (s : State) (id cascade : Nat) : State × Answer :=
  match s.findTask id with
  | none => s.refuse 0x32 .noTask
  | some t =>
    if t.live = false then s.refuse 0x32 .taskState t.outcomeFields
    else if cascade = 0 then (s.withdrawOne t, answerOf 0x32 .ok [.u16 1])
    else if cascade = 1 then
      let chain := s.chainFrom 512 id
      (chain.foldl State.freeTask (s.cutBefore t), answerOf 0x32 .ok [.u16 chain.length])
    else s.refuse 0x32 .badField

/-- The arrival of a task: its place, from 1, in its location's list; absent while CLOSED (R21, R25). -/
def State.arrival (s : State) (t : Task) : Option Nat :=
  if t.live then some ((s.loc t.loc).tasks.idxOf t.id + 1) else none

/-- The fields of QUERY_TASK's answer (R39). -/
def State.taskFields (s : State) (t : Task) : List Field :=
  [.u16 t.id, .u8 t.slot.val] ++ locFields t.loc ++ .u8 t.state.code :: optFields t.outcome (fun o => [.u8 o.code])
    ++ [.u16 t.requested, .u16 t.picked, .u16 t.remaining, .u16 t.offered, .u8 t.shortMode.code]
    ++ optFields t.pred (fun p => [.u16 p]) ++ optFields t.succ (fun q => [.u16 q])
    ++ optFields t.amended (fun a => [stampField a]) ++ optFields (s.arrival t) (fun n => [.u8 n])
    ++ [.u8 (s.pendingCount t)]

/-- QUERY_TASK; a CLOSED record is freed after the answer has been formed (R39). -/
def State.queryTask (s : State) (id : Nat) : State × Answer :=
  match s.findTask id with
  | none => s.refuse 0x33 .noTask
  | some t => (if t.live then s else s.dropTask id, answerOf 0x33 .ok (s.taskFields t))

def execPostTask (id slot bus node requested shortMode pred : Nat) (s : State) : Host.Outcome State Fault Refusal :=
  .next (s.request fun s => s.postTask id slot bus node requested shortMode pred)

def execAmendTask (id requested : Nat) (s : State) : Host.Outcome State Fault Refusal :=
  .next (s.request fun s => s.amendTask id requested)

def execWithdrawTask (id cascade : Nat) (s : State) : Host.Outcome State Fault Refusal :=
  .next (s.request fun s => s.withdrawTask id cascade)

def execQueryTask (id : Nat) (s : State) : Host.Outcome State Fault Refusal :=
  .next (s.request fun s => s.queryTask id)

end Sys2Proof.Machine
end

