-- ==== Sys2Proof/Machine/LinkRequests.lean ====
section
/-! DEFINITION. The requests of the link port and of the notice queue: PART_STATUS, RESET_PART, SET_CLASS, SET_MASK and an
unknown request (R110, R150, R154, R158, R168, R172, R173). -/

namespace Sys2Proof.Machine

/-- The answer to a kind that R169 does not list: kind 0x80, BAD_KIND, the kind received (R168). -/
def State.unknownRequest (s : State) (kind : Nat) : State × Answer :=
  (s, { kind := 0x80, result := .badKind, fields := [.u8 kind] })

/-- The answer to a request of the wrong length: BAD_LENGTH and the length the kind requires (R168). -/
def State.badLength (s : State) (kind required : Nat) : State × Answer := s.refuse kind .badLength [.u8 required]

/-- The number of session slots in use (R1, R172). -/
def State.slotsInUse (s : State) : Nat := s.sessions.toList.countP fun x => x.state != .free

/-- PART_STATUS (R172). -/
def State.partStatus (s : State) : State × Answer :=
  (s, answerOf 0x01 .ok
    [.u8 0x2B, .u16 0x0A14, .u8 1, .u8 s.busesInService, .u8 s.slotsInUse, .u16 s.tasks.length, .u16 s.closedCount,
      .u8 s.notices.mask])

/-- A bus controller after a command reset: RESETTING for 500 ms if in service (R106, R110). -/
def State.commandResetBus (s : State) (b : Fin 4) : Bus :=
  if s.inService b then { Bus.initial .resetting with resettingEnd := some (s.now + 500) } else Bus.initial .off

/-- A command reset of every block, without the answer (R2, R23, R43, R61, R90, R110, R130, R142, R158, R173). The pins,
the strap, the millisecond time and the MODEL's own counts run on. -/
def State.commandReset (s : State) : State :=
  { s with
    link := { Link.initial with lastOutcome := .taken },
    sessions := Vector.replicate 8 Session.initial,
    tasks := [],
    locs := Vector.replicate 4 (Vector.replicate 62 Location.initial),
    timing := Timing.initial,
    buses := Vector.ofFn fun b => s.commandResetBus b,
    feeds := Vector.ofFn fun b => Feed.initial (if s.inService b then some s.now else none),
    governors := Vector.replicate 4 Governor.initial,
    notices := { NoticeQueue.initial with nextAge := s.notices.nextAge } }

/-- RESET_PART (R173): its own answer is the only one left. -/
def State.resetPart (s : State) : State × Answer := (s.commandReset, answerOf 0x02 .ok [])

/-- SET_CLASS (R150). -/
def State.setClass (s : State) (cls priority : Nat) : State × Answer :=
  match NoticeClass.ofCode cls with
  | none => s.refuse 0x03 .badField
  | some c =>
    let p := clamp 0 3 priority
    ({ s with notices := { s.notices with classes := s.notices.classes.set c p } },
      answerOf 0x03 .ok [.u8 cls, .u8 p, .u8 (s.notices.classes.get c)])

/-- SET_MASK (R154). -/
def State.setMask (s : State) (level : Nat) : State × Answer :=
  let m := clamp 0 3 level
  ({ s with notices := { s.notices with mask := m } },
    answerOf 0x04 .ok
      [.u8 m, .u8 (s.notices.entries.countP fun e => decide (m < e.priority)),
        .u8 (s.notices.entries.countP fun e => decide (e.priority ≤ m))])

def execUnknownRequest (kind : Nat) (s : State) : Host.Outcome State Fault Refusal :=
  .next (s.request fun s => s.unknownRequest kind)

def execPartStatus (s : State) : Host.Outcome State Fault Refusal :=
  .next (s.request fun s => s.partStatus)

def execResetPart (s : State) : Host.Outcome State Fault Refusal :=
  .next (s.request fun s => s.resetPart)

def execSetClass (cls priority : Nat) (s : State) : Host.Outcome State Fault Refusal :=
  .next (s.request fun s => s.setClass cls priority)

def execSetMask (level : Nat) (s : State) : Host.Outcome State Fault Refusal :=
  .next (s.request fun s => s.setMask level)

end Sys2Proof.Machine
end

