-- ==== Sys2Proof/Machine/SessionRequests.lean ====
section
/-! DEFINITION. The session requests (chapter 1). -/

namespace Sys2Proof.Machine

/-- A session request on its slot; a slot number above 7 is refused before any other check (R3). -/
def State.withSlot (s : State) (kind slot : Nat) (f : Fin 8 → State × Answer) : State × Answer :=
  match slotOf slot with
  | none => s.refuse kind .badField
  | some i => f i

/-- OPEN_SESSION (R4). -/
def State.openSession (s : State) (slot colour priority : Nat) : State × Answer :=
  s.withSlot 0x20 slot fun i =>
    if (s.session i).state ≠ .free then s.refuse 0x20 .sessionState
    else
      match Colour.ofCode colour with
      | none => s.refuse 0x20 .badField
      | some c =>
        if 3 < priority then s.refuse 0x20 .badField
        else
          (s.setSession i { state := .active, colour := some c, priority := some priority, ranges := [], pending := [] },
            answerOf 0x20 .ok [.u8 i.val])

/-- Two ranges of one bus overlap (R7). -/
def Range.overlaps (r q : Range) : Bool := r.bus == q.bus && decide (r.first ≤ q.last) && decide (q.first ≤ r.last)

/-- The slot in use other than `i`, with the colour of `i`, one of whose ranges the offered range meets (R7). -/
def State.clashesWith (s : State) (i : Fin 8) (r : Range) (j : Fin 8) : Bool :=
  j != i && (s.session j).state != .free && (s.session j).colour == (s.session i).colour
    && (s.session j).ranges.any fun q => q.overlaps r

/-- The lowest-numbered slot with which the offered range clashes (R7). -/
def State.clashSlot (s : State) (i : Fin 8) (r : Range) : Option (Fin 8) := (List.finRange 8).find? (s.clashesWith i r)

/-- The range that GRANT offers, on a bus in service with 1 ≤ first ≤ last ≤ 62 (R6 check 2). -/
def State.rangeOf (s : State) (bus first last : Nat) : Option Range :=
  match s.serviceBus bus with
  | some b => if 1 ≤ first ∧ first ≤ last ∧ last ≤ 62 then some { bus := b, first := first, last := last } else none
  | none => none

/-- GRANT (R6). -/
def State.grantRange (s : State) (slot bus first last : Nat) : State × Answer :=
  s.withSlot 0x21 slot fun i =>
    let x := s.session i
    if x.state = .free then s.refuse 0x21 .noSession
    else
      match s.rangeOf bus first last with
      | none => s.refuse 0x21 .badField
      | some r =>
        if 4 ≤ x.ranges.length then s.refuse 0x21 .grantsFull
        else
          match s.clashSlot i r with
          | some j => s.refuse 0x21 .colourClash [.u8 j.val]
          | none => (s.setSession i { x with ranges := x.ranges ++ [r] }, answerOf 0x21 .ok [.u8 x.ranges.length])

/-- The WAITING or OPEN tasks of a session (R11, R17). -/
def State.liveTasks (s : State) (i : Fin 8) : List Task := s.tasks.filter fun t => t.live && t.slot == i

/-- The tasks that would lose their cover with the indexed range (R8 check 3). -/
def State.uncoveredBy (s : State) (i : Fin 8) (index : Nat) : List Task :=
  (s.liveTasks i).filter fun t =>
    ((s.session i).ranges[index]?).any (fun r => r.covers t.loc)
      && !((s.session i).ranges.eraseIdx index).any fun r => r.covers t.loc

/-- REVOKE (R8). -/
def State.revokeRange (s : State) (slot index : Nat) : State × Answer :=
  s.withSlot 0x22 slot fun i =>
    let x := s.session i
    if x.state = .free then s.refuse 0x22 .noSession
    else if x.ranges.length ≤ index then s.refuse 0x22 .badField
    else if (s.uncoveredBy i index).length ≠ 0 then
      s.refuse 0x22 .tasksPresent [.u16 (s.uncoveredBy i index).length]
    else
      (s.setSession i { x with ranges := x.ranges.eraseIdx index },
        answerOf 0x22 .ok [.u8 (x.ranges.eraseIdx index).length])

/-- SET_PRIORITY (R10). -/
def State.changePriority (s : State) (slot priority : Nat) : State × Answer :=
  s.withSlot 0x23 slot fun i =>
    let x := s.session i
    if x.state = .free then s.refuse 0x23 .noSession
    else if 3 < priority then s.refuse 0x23 .badField
    else (s.setSession i { x with priority := some priority }, answerOf 0x23 .ok [.u8 (x.priority.getD 0)])

/-- Whether a hold names a task of the session. -/
def State.holdOf (s : State) (i : Fin 8) (h : Hold) : Bool := (s.findTask h.task).any fun t => t.slot == i

/-- Every hold that names a task of the session ends (R11, R17). -/
def State.endHoldsOf (s : State) (i : Fin 8) : State :=
  s.mapLocs fun x => { x with rot := { x.rot with hold := x.rot.hold.filter fun h => !s.holdOf i h } }

/-- SUSPEND (R11). -/
def State.suspendSession (s : State) (slot : Nat) : State × Answer :=
  s.withSlot 0x24 slot fun i =>
    match (s.session i).state with
    | .free => s.refuse 0x24 .noSession
    | .suspended => s.refuse 0x24 .sessionState
    | .active =>
      ((s.setSession i { s.session i with state := .suspended }).endHoldsOf i,
        answerOf 0x24 .ok [.u16 (s.liveTasks i).length])

/-- One pending entry at RESUME: whether it was applied, and the state after it (R15). An entry whose id no record
carries, which R13 rules out, is declined without a notice, for there is no location to carry (assumption 22). -/
def State.applyEntry (s : State) (i : Fin 8) (e : PendingEntry) : State × Bool :=
  match s.findTask e.task with
  | none => (s, false)
  | some t =>
    if t.state ≠ .opened then (s.queuePress t.loc .confirm .late (some e.task) (some i), false)
    else if t.amended.any fun a => decide (e.press < a) then
      (s.queuePress t.loc .confirm .superseded (some e.task) (some i), false)
    else (s.applyConfirm t (min e.offered t.remaining), true)

/-- The pending list applied from the first entry to the last: the state, and the number applied (R14). -/
def State.applyEntries (s : State) (i : Fin 8) : List PendingEntry → State × Nat
  | [] => (s, 0)
  | e :: es =>
    let r := s.applyEntry i e
    let q := r.1.applyEntries i es
    (q.1, r.2.toNat + q.2)

/-- RESUME (R14). -/
def State.resumeSession (s : State) (slot : Nat) : State × Answer :=
  s.withSlot 0x25 slot fun i =>
    match (s.session i).state with
    | .free => s.refuse 0x25 .noSession
    | .active => s.refuse 0x25 .sessionState
    | .suspended =>
      let es := (s.session i).pending
      let r := s.applyEntries i es
      (r.1.setSession i { r.1.session i with state := .active, pending := [] },
        answerOf 0x25 .ok [.u8 r.2, .u8 (es.length - r.2)])

/-- Every linger that shows a closed task of the session ends (R17). -/
def State.endLingersOf (s : State) (i : Fin 8) : State :=
  s.mapLocs fun x => { x with rot := { x.rot with linger := x.rot.linger.filter fun g => g.slot != i } }

/-- CLOSE_SESSION (R17). -/
def State.closeSession (s : State) (slot : Nat) : State × Answer :=
  s.withSlot 0x26 slot fun i =>
    if (s.session i).state = .free then s.refuse 0x26 .noSession
    else
      let freed := s.liveTasks i
      let discarded := (s.session i).pending.length
      let s := s.endHoldsOf i
      let s := freed.foldl State.freeTask s
      let s := s.endLingersOf i
      (s.setSession i Session.initial, answerOf 0x26 .ok [.u16 freed.length, .u8 discarded])

/-- A range as it is reported (R19). -/
def Range.fields (r : Range) : List Field := [.u8 r.bus.val, .u8 r.first, .u8 r.last]

/-- A pending entry as it is reported (R19). -/
def PendingEntry.fields (e : PendingEntry) : List Field := [.u16 e.task, .u16 e.offered, stampField e.press]

/-- The number of the session's tasks in a state (R19). -/
def State.taskCount (s : State) (i : Fin 8) (state : TaskState) : Nat :=
  s.tasks.countP fun t => t.slot == i && t.state == state

/-- The fields of QUERY_SESSION's answer (R19). -/
def State.sessionFields (s : State) (i : Fin 8) : List Field :=
  let x := s.session i
  [.u8 i.val, .u8 x.state.code] ++ optFields x.colour (fun c => [.u8 c.code]) ++ optFields x.priority (fun p => [.u8 p])
    ++ .u8 x.ranges.length :: (x.ranges.map Range.fields).flatten
    ++ .u8 x.pending.length :: (x.pending.map PendingEntry.fields).flatten
    ++ [.u16 (s.taskCount i .opened), .u16 (s.taskCount i .waiting)]

/-- QUERY_SESSION (R19). -/
def State.querySession (s : State) (slot : Nat) : State × Answer :=
  s.withSlot 0x27 slot fun i => (s, answerOf 0x27 .ok (s.sessionFields i))

def execOpenSession (slot colour priority : Nat) (s : State) : Host.Outcome State Fault Refusal :=
  .next (s.request fun s => s.openSession slot colour priority)

def execGrant (slot bus first last : Nat) (s : State) : Host.Outcome State Fault Refusal :=
  .next (s.request fun s => s.grantRange slot bus first last)

def execRevoke (slot index : Nat) (s : State) : Host.Outcome State Fault Refusal :=
  .next (s.request fun s => s.revokeRange slot index)

def execSetPriority (slot priority : Nat) (s : State) : Host.Outcome State Fault Refusal :=
  .next (s.request fun s => s.changePriority slot priority)

def execSuspend (slot : Nat) (s : State) : Host.Outcome State Fault Refusal :=
  .next (s.request fun s => s.suspendSession slot)

def execResume (slot : Nat) (s : State) : Host.Outcome State Fault Refusal :=
  .next (s.request fun s => s.resumeSession slot)

def execCloseSession (slot : Nat) (s : State) : Host.Outcome State Fault Refusal :=
  .next (s.request fun s => s.closeSession slot)

def execQuerySession (slot : Nat) (s : State) : Host.Outcome State Fault Refusal :=
  .next (s.request fun s => s.querySession slot)

end Sys2Proof.Machine
end

