-- ==== Sys2Proof/Machine/LinkEvents.lean ====
section
/-! DEFINITION. The transactions of the host link: the fall of LCS, the status byte, the rise of LCS
(R161 to R168). -/

namespace Sys2Proof.Machine

/-- The outbound record chosen at the fall of LCS (R164). -/
def State.chooseOutbound (s : State) : Outbound :=
  match s.link.replies with
  | a :: _ => .answer a
  | [] =>
    match s.notices.candidate with
    | some e => .notice e
    | none => .empty

/-- The entry whose transmission the outbound record begins (R157, R164). -/
def Outbound.transmits : Outbound → Option Nat
  | .notice e => some e.age
  | .answer _ => none
  | .empty => none

/-- A transaction begins (R163, R164, R171). -/
def State.beginTransaction (s : State) : State :=
  let o := s.chooseOutbound
  { s with
    link := { s.link with request := [], readySample := s.ready, outbound := some o, status := s.statusByte,
                          shown := s.notices.lost },
    notices := { s.notices with transmitting := o.transmits } }

/-- LCS_FALL. In reset the part takes no notice of the line, and a line already low does not fall (R162, R174). -/
def execLcsFall (s : State) : Host.Outcome State Fault Refusal :=
  .next (if !s.lcs then s else if s.held then { s with lcs := false } else { s with lcs := false }.beginTransaction)

/-- The first byte has been clocked in full: the kind byte is in the request buffer, and LOST is cleared if the shown
mark is still set (R156, R161, R163). -/
def State.firstByte (s : State) (kind : Byte) : State :=
  { s with link := { s.link with request := [kind] },
           notices := { s.notices with lost := s.notices.lost && !s.link.shown } }

/-- STATUS_BYTE_COMPLETE, once in a transaction (R163). LCK idles low, so it is low at the fall of LCS. Levels without eight
rising edges have clocked no byte (R162). -/
def execStatusByteComplete (wave : List LinkPins) (s : State) : Host.Outcome State Fault Refusal :=
  .next <|
    match ldiBytes false wave with
    | [] => s
    | kind :: _ => if s.link.outbound.isSome && s.link.request.isEmpty then s.firstByte kind else s

/-- The fate of the request from the bytes clocked in full and the ready sample (R165). -/
def requestFate (bytes : List Byte) (ready : Bool) : LinkOutcome :=
  match bytes with
  | [] => .none
  | kind :: rest =>
    if kind = 0 then .none
    else if !ready then .notReady
    else
      match rest with
      | [] => .short
      | length :: body => if length.toNat ≤ 60 ∧ body.length < length.toNat then .short else .taken

/-- The entry is removed from the report queue after it has been shifted out in full; a TASK_CLOSED frees the record of
its closure if that record is still CLOSED from it (R40, R157). -/
def State.removeNotice (s : State) (e : Entry) : State :=
  let s := { s with notices := { s.notices with entries := s.notices.entries.filter fun x => x.age != e.age } }
  match e.closure with
  | none => s
  | some n => { s with tasks := s.tasks.filter fun t => !(t.state == .closed && t.closure == some n) }

/-- The outbound record was clocked out in full: `count` bytes were clocked in full, the first of them beside the status
byte (R162, R164). -/
def sentInFull (o : Outbound) (count : Nat) : Bool := decide (1 + o.bytes.length ≤ count)

/-- Step 1 of R166: an answer or a notice clocked out in full is removed, and no entry is in transmission. -/
def State.settleOutbound (s : State) (o : Outbound) (count : Nat) : State :=
  let s := { s with notices := { s.notices with transmitting := none } }
  if sentInFull o count then
    match o with
    | .answer _ => { s with link := { s.link with replies := s.link.replies.drop 1 } }
    | .notice e => s.removeNotice e
    | .empty => s
  else s

/-- The execution of a request by its owner (R169); the commands that are no requests of R169 are never read from
the link. -/
def State.runRequest (s : State) (i : Instr) : State :=
  match i with
  | .partStatus => s.request fun s => s.partStatus
  | .resetPart => s.request fun s => s.resetPart
  | .setClass cls priority => s.request fun s => s.setClass cls priority
  | .setMask level => s.request fun s => s.setMask level
  | .setTiming cycle minDwell guard hold linger => s.request fun s => s.setTiming cycle minDwell guard hold linger
  | .setSweep bus period => s.request fun s => s.setSweep bus period
  | .setFeed bus capacity mode => s.request fun s => s.setFeedRequest bus capacity mode
  | .enrol bus => s.request fun s => s.enrolRequest bus
  | .resetBus bus => s.request fun s => s.resetBusRequest bus
  | .queryBus bus => s.request fun s => s.queryBus bus
  | .queryLocation bus node => s.request fun s => s.queryLocation bus node
  | .directSet bus node colour char0 char1 char2 blink =>
      s.request fun s => s.directSet bus node colour char0 char1 char2 blink
  | .directEnd bus node => s.request fun s => s.directEnd bus node
  | .openSession slot colour priority => s.request fun s => s.openSession slot colour priority
  | .grant slot bus first last => s.request fun s => s.grantRange slot bus first last
  | .revoke slot index => s.request fun s => s.revokeRange slot index
  | .setPriority slot priority => s.request fun s => s.changePriority slot priority
  | .suspend slot => s.request fun s => s.suspendSession slot
  | .resume slot => s.request fun s => s.resumeSession slot
  | .closeSession slot => s.request fun s => s.closeSession slot
  | .querySession slot => s.request fun s => s.querySession slot
  | .postTask id slot bus node requested shortMode pred =>
      s.request fun s => s.postTask id slot bus node requested shortMode pred
  | .amendTask id requested => s.request fun s => s.amendTask id requested
  | .withdrawTask id cascade => s.request fun s => s.withdrawTask id cascade
  | .queryTask id => s.request fun s => s.queryTask id
  | .unknownRequest kind => s.request fun s => s.unknownRequest kind
  | .powerOnReset => s
  | .rstnReset => s
  | .resetRelease => s
  | .darkLamptestChange _ _ => s
  | .lcsFall => s
  | .statusByteComplete _ => s
  | .lcsRise _ => s
  | .sweepStart _ => s
  | .keysAnswer _ _ => s
  | .keysWindowExpiry _ => s
  | .identifyReply _ _ => s
  | .identifyWindowExpiry _ => s
  | .hereAnswer _ _ => s
  | .hereWindowExpiry _ => s
  | .enrLowEnd _ => s
  | .takenAnswer _ _ => s
  | .takenWindowExpiry _ => s
  | .enrolWaitEnd _ => s
  | .resettingEnd _ => s
  | .sampleStart _ => s
  | .sampleComplete _ _ => s
  | .phaseFlip _ => s

/-- The two checks of the link port, then the owner (R166 step 2, R168). -/
def State.runTaken (s : State) (bytes : List Byte) : State :=
  match bytes with
  | kind :: length :: body =>
    match readRequest kind.toNat length.toNat body with
    | .badKind k => s.request fun s => s.unknownRequest k
    | .badLength k required => s.request fun s => s.badLength k required
    | .request i => s.runRequest i
  | _ => s

/-- The request buffer is emptied and the outbound record becomes absent (R161, R166). -/
def State.endTransaction (s : State) : State :=
  { s with link := { s.link with request := [], outbound := none, status := 0 } }

/-- Step 2 of R166 with the outcome of R165. -/
def State.decideRequest (s : State) (bytes : List Byte) : State :=
  match requestFate bytes s.link.readySample with
  | .taken => s.runTaken bytes
  | .none => { s with link := { s.link with lastOutcome := .none } }
  | .notReady => { s with link := { s.link with lastOutcome := .notReady } }
  | .short => { s with link := { s.link with lastOutcome := .short } }

/-- The bytes clocked in full in the transaction: none unless the first byte was (R162, R165). -/
def State.clockedBytes (s : State) (further : List Byte) : List Byte :=
  match s.link.request with
  | [] => []
  | bs => bs ++ further

/-- The rise of LCS completes the transaction (R166). -/
def State.completeTransaction (s : State) (o : Outbound) (further : List Byte) : State :=
  let bytes := s.clockedBytes further
  ((s.settleOutbound o bytes.length).decideRequest bytes).endTransaction

/-- LCS_RISE. LCK is high at the eighth rising edge, after which the levels begin. Without a transaction in progress only
the line changes (R162, R174). -/
def execLcsRise (wave : List LinkPins) (s : State) : Host.Outcome State Fault Refusal :=
  .next <|
    match s.link.outbound with
    | none => { s with lcs := true }
    | some o => { s with lcs := true }.completeTransaction o (ldiBytes true wave)

end Sys2Proof.Machine
end

