-- ==== Sys2Proof/Machine/ResetEvents.lean ====
section
/-! DEFINITION. Power-on reset, RSTN reset, their release, and the mode lines (R2, R23, R43, R47, R61, R90, R106, R107, R130,
R142, R158, R161, R174). -/

namespace Sys2Proof.Machine

/-- The part held in a power-on or RSTN reset. The lines, the latched strap and the waiting commands stand; every block
is in its reset condition; no bus is in service until the strap is latched, and millisecond time is 0 from the start of the
reset on: both are the model's choice, for the spec starts time at the release (assumption 7). -/
def State.hold (s : State) : State :=
  { State.reset with
    pending := s.pending, held := true, ms0 := s.ms0, ms1 := s.ms1, strapMs0 := s.strapMs0, strapMs1 := s.strapMs1,
    lcs := s.lcs,
    buses := Vector.replicate 4 (Bus.initial .off),
    feeds := Vector.replicate 4 (Feed.initial none) }

/-- The strap is latched from the lines (R107). -/
def State.latchStrap (s : State) : State := { s with strapMs0 := s.ms0, strapMs1 := s.ms1 }

/-- The part right after the release: the strap is latched, the buses it selects are UNPOWERED with their first sample
due, the others are OFF, and time starts from 0 (R107, R130, R174). -/
def State.released (s : State) : State :=
  let s := s.hold.latchStrap
  { s with
    held := false,
    buses := Vector.ofFn fun b => Bus.initial (if s.inService b then .unpowered else .off),
    feeds := Vector.ofFn fun b => Feed.initial (if s.inService b then some 0 else none) }

/-- POWER_ON_RESET (R174). -/
def execPowerOnReset (s : State) : Host.Outcome State Fault Refusal := .next s.hold

/-- RSTN_RESET: a transaction in progress is abandoned with all other work (R161, R174). -/
def execRstnReset (s : State) : Host.Outcome State Fault Refusal := .next s.hold

/-- RESET_RELEASE of a reset that is held (R174). -/
def execResetRelease (s : State) : Host.Outcome State Fault Refusal := .next (if s.held then s.released else s)

/-- DARK_LAMPTEST_CHANGE: the lines take their levels; plannings, key events and the release of a reset read them
(R47, R67, R107). -/
def execDarkLamptestChange (dark lamptest : Bool) (s : State) : Host.Outcome State Fault Refusal :=
  .next { s with ms0 := dark, ms1 := lamptest }

end Sys2Proof.Machine
end

