-- ==== Sys2Proof/Machine/Dispatch.lean ====
section
/-! DEFINITION. The dispatch of the commands to their meanings, one arm per row of spec/opcode_table.json. -/

namespace Sys2Proof.Machine

/-- The effect of a command on everything but the queue. -/
def exec (i : Instr) (s : State) : Host.Outcome State Fault Refusal :=
  match i with
  | .powerOnReset => Sys2Proof.Machine.execPowerOnReset s
  | .rstnReset => Sys2Proof.Machine.execRstnReset s
  | .resetRelease => Sys2Proof.Machine.execResetRelease s
  | .darkLamptestChange dark lamptest => Sys2Proof.Machine.execDarkLamptestChange dark lamptest s
  | .lcsFall => Sys2Proof.Machine.execLcsFall s
  | .statusByteComplete wave => Sys2Proof.Machine.execStatusByteComplete wave s
  | .lcsRise wave => Sys2Proof.Machine.execLcsRise wave s
  | .unknownRequest kind => Sys2Proof.Machine.execUnknownRequest kind s
  | .partStatus => Sys2Proof.Machine.execPartStatus s
  | .resetPart => Sys2Proof.Machine.execResetPart s
  | .setClass cls priority => Sys2Proof.Machine.execSetClass cls priority s
  | .setMask level => Sys2Proof.Machine.execSetMask level s
  | .setTiming cycle minDwell guard hold linger => Sys2Proof.Machine.execSetTiming cycle minDwell guard hold linger s
  | .setSweep bus period => Sys2Proof.Machine.execSetSweep bus period s
  | .setFeed bus capacity mode => Sys2Proof.Machine.execSetFeed bus capacity mode s
  | .enrol bus => Sys2Proof.Machine.execEnrol bus s
  | .resetBus bus => Sys2Proof.Machine.execResetBus bus s
  | .queryBus bus => Sys2Proof.Machine.execQueryBus bus s
  | .queryLocation bus node => Sys2Proof.Machine.execQueryLocation bus node s
  | .directSet bus node colour char0 char1 char2 blink => Sys2Proof.Machine.execDirectSet bus node colour char0 char1 char2 blink s
  | .directEnd bus node => Sys2Proof.Machine.execDirectEnd bus node s
  | .openSession slot colour priority => Sys2Proof.Machine.execOpenSession slot colour priority s
  | .grant slot bus first last => Sys2Proof.Machine.execGrant slot bus first last s
  | .revoke slot index => Sys2Proof.Machine.execRevoke slot index s
  | .setPriority slot priority => Sys2Proof.Machine.execSetPriority slot priority s
  | .suspend slot => Sys2Proof.Machine.execSuspend slot s
  | .resume slot => Sys2Proof.Machine.execResume slot s
  | .closeSession slot => Sys2Proof.Machine.execCloseSession slot s
  | .querySession slot => Sys2Proof.Machine.execQuerySession slot s
  | .postTask id slot bus node requested shortMode pred => Sys2Proof.Machine.execPostTask id slot bus node requested shortMode pred s
  | .amendTask id requested => Sys2Proof.Machine.execAmendTask id requested s
  | .withdrawTask id cascade => Sys2Proof.Machine.execWithdrawTask id cascade s
  | .queryTask id => Sys2Proof.Machine.execQueryTask id s
  | .sweepStart bus => Sys2Proof.Machine.execSweepStart bus s
  | .keysAnswer bus frame => Sys2Proof.Machine.execKeysAnswer bus frame s
  | .keysWindowExpiry bus => Sys2Proof.Machine.execKeysWindowExpiry bus s
  | .identifyReply bus frame => Sys2Proof.Machine.execIdentifyReply bus frame s
  | .identifyWindowExpiry bus => Sys2Proof.Machine.execIdentifyWindowExpiry bus s
  | .hereAnswer bus frame => Sys2Proof.Machine.execHereAnswer bus frame s
  | .hereWindowExpiry bus => Sys2Proof.Machine.execHereWindowExpiry bus s
  | .enrLowEnd bus => Sys2Proof.Machine.execEnrLowEnd bus s
  | .takenAnswer bus frame => Sys2Proof.Machine.execTakenAnswer bus frame s
  | .takenWindowExpiry bus => Sys2Proof.Machine.execTakenWindowExpiry bus s
  | .enrolWaitEnd bus => Sys2Proof.Machine.execEnrolWaitEnd bus s
  | .resettingEnd bus => Sys2Proof.Machine.execResettingEnd bus s
  | .sampleStart bus => Sys2Proof.Machine.execSampleStart bus s
  | .sampleComplete bus supply => Sys2Proof.Machine.execSampleComplete bus supply s
  | .phaseFlip bus => Sys2Proof.Machine.execPhaseFlip bus s

end Sys2Proof.Machine
end

