-- ==== Sys2Proof/Machine/Module.lean ====
section
/-! DEFINITION. The lamp module's side of the aisle protocol (R92, R93, R97, R112, R113, R124, R125, R146, R176, R179). A module is no
part of the part: no command of spec/opcode_table.json is a module's, and `step` does not use this file (assumption 13). -/

namespace Sys2Proof.Machine

/-- The condition of an enrollment link (R113); `undriven` is "open". -/
inductive Line where
  | asserted | low | undriven
  deriving DecidableEq, Repr

/-- A recorded key press (R124). -/
structure HeldEvent where
  bit : Bool
  key : Key
  token : Nat
  since : Nat
  pressed : Instant
  deriving DecidableEq, Repr

/-- What the last LAMP frame taken put on view; `lit` is whether the frame lights the lamp in its mode and phase, which stays
until the next frame (R125, R146). -/
structure View where
  face : Face
  scale : Nat
  lit : Bool
  deriving DecidableEq, Repr

/-- A lamp module. `token` and `tokenSince` are the token last received and when it last changed; `lampClock` is when the last LAMP
frame was taken, or when the feed returned; `silent` holds from 3 s after that until the next LAMP frame; `takeBit` is set
while that frame is to give the next event its bit (R125); `look` is the predecessor that a LOOK named, with the end of its
10 ms. -/
structure LampModule where
  kindCode : Byte
  serial : BitVec 32
  powered : Bool
  address : Option Nat
  view : Option View
  token : Option Nat
  tokenSince : Instant
  lampClock : Instant
  silent : Bool
  takeBit : Bool
  events : List HeldEvent
  nextBit : Bool
  input : Line
  lowSince : Option Instant
  look : Option (Nat × Instant)
  deriving DecidableEq, Repr

/-- A module whose feed has returned at `now`: dark, without an address (R125). -/
def LampModule.dark (kindCode : Byte) (serial : BitVec 32) (input : Line) (now : Instant) : LampModule :=
  { kindCode := kindCode, serial := serial, powered := true, address := none, view := none, token := none, tokenSince := 0,
    lampClock := now, silent := false, takeBit := false, events := [], nextBit := false, input := input, lowSince := none,
    look := none }

/-! ### Frames as a module reads them -/

/-- A character as a module shows it: a code above 0x0B is blank (R179). -/
def glyphOf (b : Byte) : Glyph := (Glyph.ofCode b.toNat).getD .blank

/-- The content of a LAMP frame as a module reads it: a scale above 16 is 16, bits 4 to 7 of the flags are ignored (R179). -/
def readLamp (address colour c0 c1 c2 scale flags token : Byte) : Option AisleFrame :=
  if h : token.toNat < 8 then
    some (.lamp address.toNat
      { colour := Colour.ofCode colour.toNat, chars := { left := glyphOf c0, mid := glyphOf c1, right := glyphOf c2 },
        blink := if flags.getLsbD 0 then .slow else .steady }
      (min 16 scale.toNat) (flags.getLsbD 1) (flags.getLsbD 2) (flags.getLsbD 3) ⟨token.toNat, h⟩)
  else none

/-- The frame of the part that the bytes spell; none for a wrong CRC, a wrong length or any other kind, which a module ignores
(R112, R179, R180). -/
def readFrame (frame : List Byte) : Option AisleFrame :=
  match frame with
  | [0x20#8, crc] => if crc = busCrc [0x20#8] then some .release else none
  | [kind, a, crc] =>
      if crc ≠ busCrc [kind, a] then none
      else if kind = 0x12#8 then some (.identify a.toNat)
      else if kind = 0x21#8 then some (.take a.toNat)
      else if kind = 0x22#8 then some (.look a.toNat)
      else none
  | [0x11#8, a, c, c0, c1, c2, scale, flags, token, crc] =>
      if crc = busCrc [0x11#8, a, c, c0, c1, c2, scale, flags, token] then readLamp a c c0 c1 c2 scale flags token else none
  | _ => none

/-! ### Answers -/

/-- A time in units of 4 ms, rounded down and saturating at 255 (R124). -/
def ticks4 (d : Nat) : Nat := min 255 (d / 4)

/-- The KEYS answer: the oldest held event, if any, with its age at the sending (R112, R124, R179). DESIGN CHOICE: without an event,
bit 1 of the flags is 0, to which R179 gives no value there (assumption 35). -/
def keysBytes (address : Nat) (oldest : Option HeldEvent) (now : Instant) : List Byte :=
  match oldest with
  | none => withCrc ([0x91, address, 0, 0, 0, 0, 0].map (BitVec.ofNat 8))
  | some e =>
    withCrc ([0x91, address, 1 + 2 * e.bit.toNat, e.key.code, e.token, e.since, ticks4 (now - e.pressed)].map (BitVec.ofNat 8))

/-- An IDENTIFY reply or a TAKEN: address, kind, serial (R112, R93, R179). -/
def LampModule.identityBytes (m : LampModule) (kind : Byte) (address : Nat) : List Byte :=
  withCrc [kind, BitVec.ofNat 8 address, m.kindCode, m.serial.extractLsb' 0 8, m.serial.extractLsb' 8 8,
    m.serial.extractLsb' 16 8, m.serial.extractLsb' 24 8]

/-! ### What a module does -/

/-- The module drops its address and its unacknowledged events (R92, R125). -/
def LampModule.dropAddress (m : LampModule) : LampModule := { m with address := none, events := [] }

/-- The oldest held event is dropped if the frame acknowledges its bit (R124). -/
def acknowledge (ack : Bool) (events : List HeldEvent) : List HeldEvent :=
  match events with
  | [] => []
  | e :: es => if e.bit = ack then es else e :: es

/-- Whether a frame lights the lamp at an address: always in STEADY, and in ALTERNATE while the phase bit matches the parity, even
addresses in phase 0 (R146). -/
def litAt (address : Nat) (alternate phase : Bool) : Bool := !alternate || (address % 2 == 1) == phase

/-- A LAMP frame addressed to the module (R124, R125). After a silence the next event takes the bit opposite to this frame's
acknowledge bit. -/
def LampModule.takeLamp (m : LampModule) (v : View) (ack : Bool) (token : Nat) (now : Instant) : LampModule :=
  { m with
    view := some v, token := some token, tokenSince := if m.token = some token then m.tokenSince else now,
    lampClock := now, silent := false, takeBit := false,
    events := acknowledge ack m.events,
    nextBit := if m.takeBit then !ack else m.nextBit }

/-- The answer of a module without an address, whose input is asserted, to TAKE (R93); one that holds the address answers again.
Its first event carries bit 0, unless a silence lasts: then the LAMP frame that ends it gives the bit (R124, R125;
assumption 32). -/
def LampModule.takeAddress (m : LampModule) (n : Nat) : LampModule × Option (List Byte) :=
  if m.address = some n then (m, some (m.identityBytes 0xA1#8 n))
  else if m.address = none ∧ m.input = .asserted then
    ({ m with address := some n, nextBit := false }, some (m.identityBytes 0xA1#8 n))
  else (m, none)

/-- LOOK: a module with an address notes it for its output, one without answers HERE when its input is asserted (R97, R113). -/
def LampModule.takeLook (m : LampModule) (p : Nat) (now : Instant) : LampModule × Option (List Byte) :=
  match m.address with
  | some _ => ({ m with look := some (p, now + 10) }, none)
  | none => (m, if m.input = .asserted then some (withCrc [0xA2#8, BitVec.ofNat 8 (p + 1)]) else none)

/-- A frame on the pair reaches the module: what it becomes, and what it answers. A frame with a wrong stop bit or a wrong CRC
is ignored (R112). -/
def LampModule.receive (m : LampModule) (frame : List PairByte) (now : Instant) : LampModule × Option (List Byte) :=
  if m.powered = false then (m, none)
  else
    match (goodBytes frame).bind readFrame with
    | none => (m, none)
    | some (.lamp address face scale alternate phase ack token) =>
      if m.address = some address then
        let m := m.takeLamp { face := face, scale := scale, lit := litAt address alternate phase } ack token.val now
        (m, some (keysBytes address m.events.head? now))
      else (m, none)
    | some (.identify address) => (m, if m.address = some address then some (m.identityBytes 0x92#8 address) else none)
    | some .release => (m.dropAddress, none)
    | some (.take n) => m.takeAddress n
    | some (.look p) => m.takeLook p now

/-- A key press: recorded unless four events are held, the module has no address, or it is silent (R92, R124, R125). A BUTTON
module has the key CONFIRM only (00_scope.md section 1). -/
def LampModule.press (m : LampModule) (key : Key) (now : Instant) : LampModule :=
  match m.powered, m.address, m.token with
  | true, some _, some token =>
    if m.silent || decide (4 ≤ m.events.length) || (m.kindCode == 1#8 && key != .confirm) then m
    else
      { m with
        events := (m.events ++
          [{ bit := m.nextBit, key := key, token := token, since := ticks4 (now - m.tokenSince), pressed := now }]),
        nextBit := !m.nextBit }
  | _, _, _ => m

/-- Three seconds have passed without a LAMP frame addressed to the module, since the last one or since its feed returned: it
blanks itself, discards its events and ignores its keys (R125). -/
def LampModule.fallSilent (m : LampModule) (now : Instant) : LampModule :=
  if m.powered ∧ m.lampClock + 3000 ≤ now ∧ m.silent = false then
    { m with view := none, silent := true, takeBit := true, events := [] }
  else m

/-- The enrollment input takes a level (R113). -/
def LampModule.setInput (m : LampModule) (line : Line) (now : Instant) : LampModule :=
  { m with input := line, lowSince := if line = .low then some (m.lowSince.getD now) else none }

/-- An input that has been low for 20 ms drops the address (R92); an open input does not count (R113). -/
def LampModule.inputHeldLow (m : LampModule) (now : Instant) : LampModule :=
  match m.lowSince with
  | none => m
  | some t => if t + 20 ≤ now then m.dropAddress else m

/-- The feed is lost: address, events and content go (R125). -/
def LampModule.losePower (m : LampModule) : LampModule :=
  { LampModule.dark m.kindCode m.serial m.input 0 with powered := false }

/-- The feed returns (R125). -/
def LampModule.gainPower (m : LampModule) (now : Instant) : LampModule := LampModule.dark m.kindCode m.serial m.input now

/-- The enrollment output (R113). -/
def LampModule.output (m : LampModule) (now : Instant) : Line :=
  if m.powered = false then .undriven
  else
    match m.address with
    | none => if m.input = .low then .low else .undriven
    | some a =>
      match m.look.filter fun k => decide (now < k.2) with
      | some (p, _) => if a = p then .asserted else .low
      | none => if m.input = .low then .low else .asserted

/-! ### What a module shows -/

/-- One position of the display: a digit, all segments dark, or the middle segment alone (R179). -/
inductive Position where
  | digit (d : Fin 10)
  | dark
  | middle
  deriving DecidableEq, Repr

/-- How a position shows a character (R179). -/
def Glyph.position : Glyph → Position
  | .digit d => .digit d
  | .blank => .dark
  | .dash => .middle

/-- What a picker sees: the lit channels with their brightness in sixteenths, none for a dark lamp, and the three positions of
the display, none for a module without one. -/
structure Picture where
  lamp : Option (Channels × Nat)
  digits : Option (Position × Position × Position)
  deriving DecidableEq, Repr

/-- Whether the lamp and the digits are lit in this part of the module's own blink, `on` (R179). -/
def Blink.lights (k : Blink) (on : Bool) : Bool := k == .steady || on

/-- The lamp of a view: its colour at the frame's scale, where mode and phase light it and the blink does (R146, R176, R179). -/
def View.lamp (v : View) (on : Bool) : Option (Channels × Nat) :=
  if v.lit && v.face.blink.lights on then v.face.colour.map fun c => (c.lights, v.scale) else none

/-- The characters of a view on a display, in every mode and phase (R146, R179). -/
def View.positions (v : View) (on : Bool) : Position × Position × Position :=
  if v.face.blink.lights on then (v.face.chars.left.position, v.face.chars.mid.position, v.face.chars.right.position)
  else (.dark, .dark, .dark)

/-- What the module shows while its own blink is `on` or not. A BUTTON module ignores the characters (R125, R146, R179). -/
def LampModule.shows (m : LampModule) (on : Bool) : Picture :=
  let digits := match m.view with
    | some v => v.positions on
    | none => (.dark, .dark, .dark)
  { lamp := m.view.bind fun v => v.lamp on, digits := if m.kindCode = 2#8 then some digits else none }

end Sys2Proof.Machine
end

