-- ==== Sys2Proof/Safety.lean ====
section
/-! DEFINITION. What every step keeps: the ranges and the agreements between records that the rules state of every
moment. -/

namespace Sys2Proof.Machine

/-! ### The link port and the report queue -/

/-- Queue order: higher priority first, and within one priority the older entry first (R152). -/
def Entry.before (a b : Entry) : Prop := b.priority < a.priority ∨ (a.priority = b.priority ∧ a.age < b.age)

/-- The report queue (R149, R151 to R154): at most 32 entries, in queue order, each with an age of its own and a
priority 1 to 3; the class priorities and the mask level lie in 0 to 3. -/
structure NoticeQueue.InOrder (q : NoticeQueue) : Prop where
  room : q.entries.length ≤ 32
  order : q.entries.Pairwise Entry.before
  ages : (q.entries.map Entry.age).Nodup
  young : ∀ e ∈ q.entries, e.age < q.nextAge
  priorities : ∀ e ∈ q.entries, 1 ≤ e.priority ∧ e.priority ≤ 3
  classes : ∀ c, q.classes.get c ≤ 3
  mask : q.mask ≤ 3

/-- The outbound record of a transaction is still where it was taken from (R157, R164, R167): an answer heads the reply
queue, a notice stands in the report queue and is the entry in transmission. -/
def State.OutboundInPlace (s : State) : Prop :=
  match s.link.outbound with
  | some (.answer a) => s.link.replies.head? = some a ∧ s.notices.transmitting = none
  | some (.notice e) => e ∈ s.notices.entries ∧ s.notices.transmitting = some e.age
  | some .empty => s.notices.transmitting = none
  | none => s.notices.transmitting = none

/-! ### Buses, feeds and governors -/

/-- A walk or the wait before it is under way. -/
def Bus.walking (c : Bus) : Prop :=
  c.waitEnd.isSome ∨ c.enrLowEnd.isSome ∨ (∃ i k, c.exchange = .walkTake i k) ∨ c.exchange = .walkLook

/-- A bus controller agrees with its own timers and exchange (R91, R108, R109, R122, R128). -/
structure Bus.Coherent (c : Bus) : Prop where
  walk : c.walking → c.state = .enrolling
  reset : c.resettingEnd.isSome ↔ c.state = .resetting
  due : c.scheduled.isSome → c.state = .service
  sweep : c.exchange.ofSweep → c.state = .service ∨ c.state = .enrolling
  waiting : c.waitEnd.isSome → c.enrLowEnd = none ∧ c.exchange = .none
  releasing : c.enrLowEnd.isSome → c.exchange = .none

/-- A feed monitor and a load governor agree with the bus state (R130, R132, R136, R137, R139, R147): the switch is closed
exactly in ENROLLING and SERVICE, the brownout flag is set exactly in BROWNOUT, and the phase runs only in SERVICE in
ALTERNATE. -/
structure SupplyAgrees (c : Bus) (f : Feed) (g : Governor) : Prop where
  switch : f.switchClosed = true ↔ c.state = .enrolling ∨ c.state = .service
  brownout : f.brownout = true ↔ c.state = .brownout
  running : f.busy = f.runStart.isSome
  off : c.state = .off → f.next = none ∧ f.runStart = none
  phase : g.phaseExpiry.isSome → c.state = .service ∧ g.mode = .alternate

/-- The supply path of the part (2.1): each bus in its states, and OFF exactly where the part is in reset or the strap
leaves the bus out (R107). -/
structure State.SupplyInv (s : State) : Prop where
  coherent : ∀ b, (s.bus b).Coherent
  agrees : ∀ b, SupplyAgrees (s.bus b) (s.feed b) (s.governor b)
  strap : ∀ b, (s.bus b).state = .off ↔ s.held = true ∨ s.inService b = false

/-- Mode and scale of a governor (R142, R144 to R146): scale 0 in NONE, and 4 to 16 once a sweep has been computed. -/
def Governor.inRange (g : Governor) : Prop :=
  500 ≤ g.capacity ∧ g.capacity ≤ 8000 ∧
    ((g.mode = .none ∧ g.scale = 0) ∨ (g.mode ≠ .none ∧ 4 ≤ g.scale ∧ g.scale ≤ 16))

/-- The ranges of R61. -/
def Timing.inRange (t : Timing) : Prop :=
  800 ≤ t.cycle ∧ t.cycle ≤ 4000 ∧ 250 ≤ t.minDwell ∧ t.minDwell ≤ 1000 ∧ t.guard ≤ 400 ∧
    1000 ≤ t.hold ∧ t.hold ≤ 10000 ∧ t.linger ≤ 2000

/-- The ranges of R106 and R130. -/
def Bus.inRange (c : Bus) : Prop := 20 ≤ c.period ∧ c.period ≤ 250 ∧ c.counter < 256 ∧ c.lastDuration ≤ 65535

def Feed.inRange (f : Feed) : Prop := f.level ≤ 15 ∧ f.zeroRun ≤ 4

/-- Every setting and count of the bus blocks and the display scheduler lies in the range its rule gives. -/
structure State.RangesInv (s : State) : Prop where
  timing : s.timing.inRange
  buses : ∀ b, (s.bus b).inRange
  feeds : ∀ b, (s.feed b).inRange
  governors : ∀ b, (s.governor b).inRange

/-! ### Locations -/

/-- The miss count, and the recorded kind, that each presence state goes with (R88, R89, R94, R98, R117, R138). -/
structure Location.Coherent (x : Location) : Prop where
  serial : x.kind.isSome = x.serial.isSome
  kind : x.visited = true → x.kind.isSome = true
  present : x.state = .present → x.miss = 0
  suspect : x.state = .suspect → x.miss = 1 ∨ x.miss = 2
  lost : x.state = .lost → x.miss = 3
  absent : x.state = .absent → x.miss = 0
  mismatch : x.state = .mismatch → x.miss = 0

/-- Every location is coherent, and the location that a visit in progress concerns is one that sweeps visit (R115). -/
structure State.PresenceInv (s : State) : Prop where
  coherent : ∀ l, (s.loc l).Coherent
  visiting : ∀ b i k, (s.bus b).exchange = .visit i k → (s.loc { bus := b, idx := i }).visited = true

/-- The entry of the current token describes the content on view (R59). -/
def Rotation.TokenNamesContent (r : Rotation) : Prop :=
  ∀ m, r.meaning = some m → ∃ e : TokenEntry, r.map[r.token.val] = some e ∧ e.meaning = m

/-! ### Sessions -/

/-- A session record (R1, R12): nothing while FREE; colour and priority in use; at most four ranges and four held
confirmations, the latter only while SUSPENDED. -/
structure Session.Coherent (x : Session) : Prop where
  free : x.state = .free → x = Session.initial
  used : x.state ≠ .free → x.colour.isSome = true ∧ ∃ p, x.priority = some p ∧ p ≤ 3
  ranges : x.ranges.length ≤ 4 ∧ ∀ r ∈ x.ranges, 1 ≤ r.first ∧ r.first ≤ r.last ∧ r.last ≤ 62
  pending : x.pending.length ≤ 4
  held : x.pending ≠ [] → x.state = .suspended

/-- The session table: every record is coherent, and two sessions in use of one colour have no location in common among
their grant ranges (R7). -/
structure State.SessionInv (s : State) : Prop where
  coherent : ∀ i, (s.session i).Coherent
  apart : ∀ i j, i ≠ j → (s.session i).state ≠ .free → (s.session j).state ≠ .free →
    (s.session i).colour = (s.session j).colour → ∀ l, ((s.session i).covers l && (s.session j).covers l) = false

/-! ### The task store -/

/-- The quantities and optional fields of a task record (R21, R22, R30). -/
structure Task.Coherent (t : Task) : Prop where
  id : 1 ≤ t.id ∧ t.id ≤ 65535
  picked : t.picked ≤ t.requested
  requested : t.requested ≤ 999
  offered : t.offered ≤ t.remaining
  live : t.live = true → t.picked < t.requested ∧ t.outcome = none ∧ t.closure = none
  opened : t.state = .opened → t.pred = none
  waiting : t.state = .waiting → t.pred.isSome = true
  closed : t.state = .closed → t.offered = 0 ∧ t.pred = none ∧ t.succ = none ∧ t.outcome.isSome = true ∧
    t.closure.isSome = true ∧ (t.outcome = some .done ↔ t.picked = t.requested)

/-- `t` is linked to `u` as its successor: same session, both live, linked on both sides (R30). -/
def Task.linksTo (t u : Task) : Prop :=
  t.succ = some u.id ∧ u.pred = some t.id ∧ t.slot = u.slot ∧ t.live = true ∧ u.live = true

/-- The task store with the task lists, the session table, the pending lists and the report queue (R5, R13, R20, R22, R25,
R30, R40): a closure has one record, and its notice names no closure to come. -/
structure State.StoreInv (s : State) : Prop where
  room : s.tasks.length ≤ 512
  ids : (s.tasks.map Task.id).Nodup
  records : ∀ t ∈ s.tasks, t.Coherent
  succs : ∀ t ∈ s.tasks, ∀ q, t.succ = some q → ∃ u ∈ s.tasks, u.id = q ∧ t.linksTo u
  preds : ∀ u ∈ s.tasks, ∀ p, u.pred = some p → ∃ t ∈ s.tasks, t.id = p ∧ t.linksTo u
  acyclic : ∃ rank : Nat → Nat, ∀ t ∈ s.tasks, ∀ q, t.succ = some q → rank t.id < rank q
  lists : ∀ l, (s.loc l).tasks.length ≤ 8 ∧ (s.loc l).tasks.Nodup
  listed : ∀ l id, id ∈ (s.loc l).tasks ↔ ∃ t ∈ s.tasks, t.id = id ∧ t.live = true ∧ t.loc = l
  covered : ∀ t ∈ s.tasks, t.live = true → (s.session t.slot).state ≠ .free ∧ (s.session t.slot).covers t.loc = true
  closures : (s.tasks.filterMap Task.closure).Nodup ∧ ∀ t ∈ s.tasks, ∀ n, t.closure = some n → n < s.closures
  reports : ∀ e ∈ s.notices.entries, ∀ n, e.closure = some n → n < s.closures
  held : ∀ i, ∀ e ∈ (s.session i).pending, ∃ t ∈ s.tasks, t.id = e.task ∧ t.state = .opened ∧ t.slot = i

/-- Every agreement above. -/
structure State.Inv (s : State) : Prop where
  replies : s.link.replies.length ≤ 4
  notices : s.notices.InOrder
  outbound : s.OutboundInPlace
  supply : s.SupplyInv
  ranges : s.RangesInv
  presence : s.PresenceInv
  tokens : ∀ l, (s.loc l).rot.TokenNamesContent
  sessions : s.SessionInv
  store : s.StoreInv

end Sys2Proof.Machine
end

