-- ==== Sys2Proof/Certificates/Slice0/Obligations.lean ====
section
/-! DEFINITION. The statements for the provers, from the numbered rules of the spec, with the few words they share. -/

open Sys2Proof Sys2Proof.Machine

/-! ### Words of the statements -/

/-- RDY is high, so a request is taken (R165, R171). -/
def Sys2Proof.Claims.Takes (s : State) : Prop := s.held = false ∧ s.link.replies.length < 4

/-- The state with one more answer at the end of the reply queue (R166 step 2). -/
def Sys2Proof.Claims.answered (s : State) (a : Answer) : State :=
  { s with link := { s.link with replies := s.link.replies ++ [a], lastOutcome := .taken } }

/-- The commands that are requests: those of R169, and a request of any other kind. -/
def Sys2Proof.Claims.isRequest (c : Instr) : Bool :=
  (encodeRequest c).isSome || match c with
    | .unknownRequest _ => true
    | _ => false

/-- The kind of a request's answer (R168). -/
def Sys2Proof.Claims.answerKind (c : Instr) : Nat :=
  match encodeRequest c with
  | some (kind, _) => kind + 0x80
  | none => 0x80

/-- The commands that come from the aisle pair, the supply or a timer of one bus, with that bus. -/
def Sys2Proof.Claims.busOfCommand : Instr → Option (Fin 4)
  | .sweepStart b => some b
  | .keysAnswer b _ => some b
  | .keysWindowExpiry b => some b
  | .identifyReply b _ => some b
  | .identifyWindowExpiry b => some b
  | .hereAnswer b _ => some b
  | .hereWindowExpiry b => some b
  | .enrLowEnd b => some b
  | .takenAnswer b _ => some b
  | .takenWindowExpiry b => some b
  | .enrolWaitEnd b => some b
  | .resettingEnd b => some b
  | .sampleStart b => some b
  | .sampleComplete b _ => some b
  | .phaseFlip b => some b
  | _ => none

/-- The commands that come from the aisle pair of a bus: the due sweep, the answers and the ends of their windows, and the phases of a
walk; not those of the supply and the phase. -/
def Sys2Proof.Claims.ofPair : Instr → Bool
  | .sampleStart _ => false
  | .sampleComplete _ _ => false
  | .phaseFlip _ => false
  | c => (busOfCommand c).isSome

open Sys2Proof.Claims

/-! ### The step -/

/-- A command at the front of the queue is what the step executes, on the state with the queue's rest (the row's own
interface). On an empty queue the 48-bit millisecond time rises by 1 (R174), but not while a reset is held; that it does so in
this step is the model's choice (assumptions 1 and 2). -/
def Obligations.StepRunsFrontCommandOrCountsTime : Prop :=
  (∀ (c : Instr) (rest : List Instr) (s : State), s.pending = c :: rest → step s = exec c { s with pending := rest }) ∧
  (∀ s : State, s.pending = [] →
    (s.held = false → step s = .next { s with now := (s.now + 1) % 2 ^ 48 }) ∧ (s.held = true → step s = .next s))

/-- Every command answers a next state in every state, and leaves the queue of waiting commands as it was (the spec gives
every command an effect; assumption 3). -/
def Obligations.EveryCommandRunsAndLeavesTheQueue : Prop :=
  ∀ (c : Instr) (s : State), ∃ t, exec c s = .next t ∧ t.pending = s.pending

/-! ### Resets and mode lines -/

/-- R2, R23, R43, R61, R90, R106, R130, R142, R149, R158, R161, R174: what a power-on or RSTN reset leaves while it is held. The
lines, the latched strap and the queue stand. That no bus is in service and that the time is 0 while the reset is held are the
model's choice (assumption 7), as are the ready sample and the status byte (assumption 23) and the values of the MODEL's own fields
(assumption 25). -/
def Obligations.HeldResetClearsThePart : Prop :=
  ∀ (c : Instr) (s : State), c = .powerOnReset ∨ c = .rstnReset →
    ∃ t, exec c s = .next t ∧
      t = { s with
        held := true, now := 0, closures := 0, tasks := [],
        link := { request := [], replies := [], lastOutcome := .none, readySample := false, outbound := none, status := 0,
                  shown := false },
        sessions := Vector.replicate 8 { state := .free, colour := none, priority := none, ranges := [], pending := [] },
        locs := t.locs, timing := { cycle := 2000, minDwell := 400, guard := 240, hold := 4000, linger := 600 },
        buses := t.buses, feeds := t.feeds,
        governors := Vector.replicate 4 { capacity := 2000, mode := .none, scale := 0, overload := false,
                                          phaseExpiry := none },
        notices := { classes := { confirm := 3, press := 2, location := 2, bus := 3, supply := 3, session := 1 }, mask := 0,
                     entries := [], lost := false, transmitting := none, nextAge := 0 } } ∧
      (∀ l, (t.loc l).state = .absent ∧ (t.loc l).kind = none ∧ (t.loc l).serial = none ∧ (t.loc l).miss = 0 ∧
        (t.loc l).ack = true ∧ (t.loc l).tasks = [] ∧
        (t.loc l).rot = { token := 0, map := Vector.replicate 8 none, meaning := none, slotStart := none, dwell := none,
                          position := none, hold := none, linger := none, direct := none, fresh := true, face :=
          { colour := none, chars := { left := .blank, mid := .blank, right := .blank }, blink := .steady } }) ∧
      (∀ b, (t.bus b) = { state := .off, period := 60, counter := 0, scheduled := none, lastDuration := 0, silent := false,
                          ambiguous := false, phase := false, exchange := .none, resettingEnd := none, waitEnd := none,
                          enrLowEnd := none, sweepStart := 0, sweepVisited := false, sweepGood := false, sent := [] } ∧
        (t.feed b) = { mode := .periodic, level := 0, zeroRun := 0, escalated := false, busy := false, brownout := false,
                       next := none, switchClosed := false, runStart := none, lastStart := none } ∧
        t.fsw b = false ∧ t.enr b = false) ∧
      t.rdy = false ∧ t.attn = false ∧ (∀ n, t.ldo n = none) ∧ (∀ b n, t.de b n = false)

/-- R107 and R174: the release latches the strap, time starts from 0, each bus that the table of R107 selects is UNPOWERED
with its first sample due at once, the others are OFF; all else is as the reset left it (R43, R90, R106, R130). With no reset
held the command does nothing (assumption 3). The ready sample and the status byte (assumption 23) and the values of the MODEL's
own fields (assumption 25) are the model's choice, as are the line levels that lead to State.reset (assumption 4). R47: the mode
lines take their levels and nothing else changes. -/
def Obligations.ReleaseLatchesStrapAndLinesTakeLevels : Prop :=
  (∀ s : State,
     (s.held = true → ∃ t, exec .resetRelease s = .next t ∧
       t = { t with pending := s.pending, held := false, now := 0, ms0 := s.ms0, ms1 := s.ms1, strapMs0 := s.ms0,
                    strapMs1 := s.ms1, lcs := s.lcs, link := Link.initial, tasks := [], closures := 0,
                    timing := Timing.initial, notices := NoticeQueue.initial } ∧
       t.busesInService = (match s.ms1, s.ms0 with
         | false, false => 1
         | false, true => 2
         | true, false => 3
         | true, true => 4) ∧
       (∀ i, t.session i = Session.initial) ∧ (∀ l, t.loc l = Location.initial) ∧
       (∀ b, t.governor b = Governor.initial ∧
         t.bus b = Bus.initial (if b.val < t.busesInService then .unpowered else .off) ∧
         t.feed b = Feed.initial (if b.val < t.busesInService then some 0 else none)) ∧
       t.rdy = true ∧ t.attn = false ∧
       (s.ms0 = true → s.ms1 = true → s.lcs = true → s.pending = [] → t = State.reset)) ∧
     (s.held = false → exec .resetRelease s = .next s)) ∧
  (∀ (dark lamptest : Bool) (s : State),
    exec (.darkLamptestChange dark lamptest) s = .next { s with ms0 := dark, ms1 := lamptest })

/-! ### Transactions -/

/-- The levels of LDI at the rising edges of LCK, for LCK at `lck` before the first of the levels (R162). -/
def Sys2Proof.Claims.rises (lck : Bool) (wave : List LinkPins) : List Bool :=
  ((lck :: wave.map LinkPins.lck).zip wave).filterMap fun (before, p) => if before = false ∧ p.lck = true then some p.ldi else none

/-- R163 and R164: at the fall of LCS the status byte is formed, the ready sample is taken (R171), and the outbound record is
the oldest answer, else the candidate (the first entry above the mask, R153), whose transmission begins (R157), else the
empty record. Bits 7 to 0 of the byte are laid out as in R177. At most four answers wait (R167). R156 and R163: when the first
byte is complete, the kind byte is in the request buffer, and LOST is cleared unless a notice was dropped after the fall;
levels with fewer than eight rising edges of LCK complete no byte (R162; that the command carries the levels: assumption 6). -/
def Obligations.FallFormsStatusAndItsByteClearsLost : Prop :=
  (∀ s : State, s.held = false → s.lcs = true → s.link.replies.length ≤ 4 →
     ∃ t, exec .lcsFall s = .next t ∧
       t = { s with
         lcs := false,
         link := { s.link with request := [], readySample := decide (s.link.replies.length < 4), outbound := t.link.outbound,
                               status := t.link.status, shown := s.notices.lost },
         notices := { s.notices with transmitting := t.notices.transmitting } } ∧
       (∀ a as, s.link.replies = a :: as → t.link.outbound = some (.answer a) ∧ t.notices.transmitting = none) ∧
       (∀ e, s.link.replies = [] → s.notices.entries.find? (fun x => decide (s.notices.mask < x.priority)) = some e →
         t.link.outbound = some (.notice e) ∧ t.notices.transmitting = some e.age) ∧
       (s.link.replies = [] → (∀ x ∈ s.notices.entries, x.priority ≤ s.notices.mask) →
         t.link.outbound = some .empty ∧ t.notices.transmitting = none) ∧
       t.link.status.extractLsb' 6 2 = BitVec.ofNat 2 s.link.lastOutcome.code ∧
       t.link.status.extractLsb' 3 3 = BitVec.ofNat 3 s.link.replies.length ∧
       t.link.status.getLsbD 2 = s.notices.entries.any (fun x => decide (s.notices.mask < x.priority)) ∧
       t.link.status.getLsbD 1 = s.notices.lost ∧ t.link.status.getLsbD 0 = true) ∧
  (∀ (s : State) (wave : List LinkPins), (rises false wave).length < 8 → exec (.statusByteComplete wave) s = .next s) ∧
  (∀ (s : State) (wave : List LinkPins) (kind : Byte) (rest : List Byte), s.link.outbound.isSome = true → s.link.request = [] →
     ldiBytes false wave = kind :: rest →
     exec (.statusByteComplete wave) s = .next { s with
       link := { s.link with request := [kind] },
       notices := { s.notices with lost := s.notices.lost && !s.link.shown } } ∧
     (∀ (n : Notice) (closure : Option Nat), s.notices.classes.get n.cls ≠ 0 → 32 ≤ s.notices.entries.length →
       ∃ t, exec (.statusByteComplete wave) (s.queueNotice n closure) = .next t ∧ t.notices.lost = true))

/-- R162: the bytes clocked in on LDI are the levels at the rising edges of LCK, most significant bit first, eight to a byte without
gaps, and a byte not clocked in full does not count. R165: the fate of the request at the rise of LCS, from the bytes clocked in
full and the ready sample, in the order of the rule; a request that is not taken leaves nothing but its outcome beside step 1 of
R166. R167 gives the premise on the reply queue. That LCS_RISE carries the levels since byte 0 is the model's choice (assumption
6), and so is the status byte 0 after the rise (assumption 23). -/
def Obligations.RequestFateFollowsTable : Prop :=
  (∀ (lck : Bool) (wave : List LinkPins),
    (ldiBytes lck wave).length = (rises lck wave).length / 8 ∧
    ∀ n (h : n < (ldiBytes lck wave).length) (k : Fin 8),
      (rises lck wave)[8 * n + k.val]? = some ((ldiBytes lck wave)[n].getLsbD (7 - k.val))) ∧
  (∀ bytes : List Byte, ldiBytes false (linkWave bytes) = bytes ∧
    ∀ tail, (rises true tail).length < 8 → ldiBytes true (linkWave bytes ++ tail) = bytes) ∧
  (∀ (s : State) (o : Outbound) (wave : List LinkPins) (bytes : List Byte), s.held = false → s.link.outbound = some o →
    (s.link.readySample = true → s.link.replies.length < 4) →
    bytes = (if s.link.request = [] then [] else s.link.request ++ ldiBytes true wave) →
    ∃ t fate, exec (.lcsRise wave) s = .next t ∧ t.link.lastOutcome = fate ∧ t.lcs = true ∧
      fate = (if bytes = [] ∨ bytes.head? = some 0 then LinkOutcome.none
        else if s.link.readySample = false then .notReady
        else if bytes.length < 2 ∨ ((bytes.getD 1 0).toNat ≤ 60 ∧ bytes.length < 2 + (bytes.getD 1 0).toNat) then .short
        else .taken) ∧
      (fate ≠ .taken → t = (({ s with lcs := true } : State).settleOutbound o bytes.length |> fun u =>
        { u with link := { u.link with lastOutcome := fate, request := [], outbound := none, status := 0 } })))

/-- R166, R168, R169, R177, R178: a transaction that carries a request in full runs, after step 1, exactly the request its
bytes spell, and ends. That the status byte is 0 after the rise is the model's choice (assumption 23). -/
def Obligations.RiseRunsTheRequestItCarries : Prop :=
  ∀ (s : State) (o : Outbound) (i : Instr) (kind : Byte) (rest extra : List Byte) (wave : List LinkPins), s.held = false →
    i.wf = true → s.link.outbound = some o → s.link.readySample = true → s.link.replies.length < 4 →
    requestBytes i = kind :: rest → s.link.request = [kind] → ldiBytes true wave = rest ++ extra →
    ∃ t v, exec (.lcsRise wave) s = .next t ∧
      exec i (({ s with lcs := true } : State).settleOutbound o (1 + rest.length + extra.length)) = .next v ∧
      t = { v with link := { v.link with request := [], outbound := none, status := 0 } }

/-- R157, R166 step 1, R40: an outbound record leaves its queue exactly when its last byte has been clocked, beside the
status byte (R162); a TASK_CLOSED notice then frees the record still CLOSED from its closure. The transaction carries no
request here (kind 0, R165). That the status byte is 0 after the rise is the model's choice (assumption 23). -/
def Obligations.OutboundRecordRemovedOnlyInFull : Prop :=
  ∀ (s : State) (o : Outbound) (further : List Byte) (wave : List LinkPins), s.held = false → s.link.outbound = some o →
    s.link.request = [0#8] → ldiBytes true wave = further →
    ∃ t, exec (.lcsRise wave) s = .next t ∧
      t = { s with
        lcs := true, tasks := t.tasks,
        link := { s.link with replies := t.link.replies, lastOutcome := .none, request := [], outbound := none, status := 0 },
        notices := { s.notices with entries := t.notices.entries, transmitting := none } } ∧
      (further.length < o.bytes.length →
        t.link.replies = s.link.replies ∧ t.notices.entries = s.notices.entries ∧ t.tasks = s.tasks) ∧
      (o.bytes.length ≤ further.length →
        (∀ a, o = .answer a →
          t.link.replies = s.link.replies.tail ∧ t.notices.entries = s.notices.entries ∧ t.tasks = s.tasks) ∧
        (∀ e, o = .notice e →
          t.link.replies = s.link.replies ∧ t.notices.entries = s.notices.entries.filter (fun x => x.age ≠ e.age) ∧
          t.tasks = s.tasks.filter (fun u => ¬ (u.state = .closed ∧ e.closure.isSome ∧ u.closure = e.closure))) ∧
        (o = .empty → t.link.replies = s.link.replies ∧ t.notices.entries = s.notices.entries ∧ t.tasks = s.tasks))

/-- A number as two bytes, least significant first (R176). -/
def Sys2Proof.Claims.twoBytes (n : Nat) : List Byte := [BitVec.ofNat 8 n, BitVec.ofNat 8 (n / 256)]

/-- A presence byte, and the bytes of an optional field (R176). -/
def Sys2Proof.Claims.presence {α : Type} (o : Option α) (f : α → List Byte) : List Byte :=
  match o with
  | none => [0#8]
  | some a => 1#8 :: f a

/-- The bytes of a field (R176). -/
def Sys2Proof.Claims.fieldBytes : Field → List Byte
  | .u8 n => [BitVec.ofNat 8 n]
  | .u16 n => twoBytes n
  | .u32 n => [n.extractLsb' 0 8, n.extractLsb' 8 8, n.extractLsb' 16 8, n.extractLsb' 24 8]

/-- A record: kind, length, body (R177). -/
def Sys2Proof.Claims.record (kind length : Nat) (body : List Byte) : List Byte :=
  BitVec.ofNat 8 kind :: BitVec.ofNat 8 length :: body

/-- A location as two bytes (R176). -/
def Sys2Proof.Claims.place (l : Loc) : List Byte := [BitVec.ofNat 8 l.bus.val, BitVec.ofNat 8 (l.idx.val + 1)]

/-- R159, R164, R168, R176, R177 and 10.3.1: the bytes of the outbound record. The empty record is kind 0 and length 0; an answer is
its kind, its length, its result code and its fields; a notice is its kind, its length, its time stamp and its fields, for each of the
seven kinds. The result codes, the codes of the fields and the channels of the colours are those of the tables. -/
def Obligations.OutboundRecordsAreLaidOutInBytes : Prop :=
  Outbound.empty.bytes = [0#8, 0#8] ∧
  (∀ a : Answer, (Outbound.answer a).bytes =
    record a.kind (1 + (a.fields.flatMap fieldBytes).length) (BitVec.ofNat 8 a.result.code :: a.fields.flatMap fieldBytes)) ∧
  (∀ (e : Entry) (l : Loc) (task picked other : Nat) (slot : Fin 8),
    let bytes := (Outbound.notice e).bytes
    (∀ o, e.notice = .taskClosed task slot l o other picked →
      bytes = record 0x41 12 (twoBytes e.stamp ++ twoBytes task ++ [BitVec.ofNat 8 slot.val] ++ place l ++ [BitVec.ofNat 8 o.code]
        ++ twoBytes other ++ twoBytes picked)) ∧
    (e.notice = .taskPartial task slot l picked other →
      bytes = record 0x42 11 (twoBytes e.stamp ++ twoBytes task ++ [BitVec.ofNat 8 slot.val] ++ place l ++ twoBytes picked
        ++ twoBytes other)) ∧
    (∀ k o id i, e.notice = .press l k o id i →
      bytes = record 0x43 (8 + (if id.isSome then 2 else 0) + (if i.isSome then 1 else 0))
        (twoBytes e.stamp ++ place l ++ [BitVec.ofNat 8 k.code, BitVec.ofNat 8 o.code] ++ presence id twoBytes
          ++ presence i (fun j => [BitVec.ofNat 8 j.val]))) ∧
    (∀ p c k n, e.notice = .location l p c k n →
      bytes = record 0x44 (8 + (if k.isSome then 1 else 0) + (if n.isSome then 4 else 0))
        (twoBytes e.stamp ++ place l ++ [BitVec.ofNat 8 p.code, BitVec.ofNat 8 c.code]
          ++ presence k (fun x => [BitVec.ofNat 8 x.code]) ++ presence n (fun x => fieldBytes (.u32 x)))) ∧
    (∀ b v n, e.notice = .bus b v n →
      bytes = record 0x45 (5 + (if n.isSome then 1 else 0)) (twoBytes e.stamp ++ [BitVec.ofNat 8 b.val, BitVec.ofNat 8 v.code]
        ++ presence n (fun x => [BitVec.ofNat 8 x]))) ∧
    (∀ b v level n, e.notice = .supply b v level n →
      bytes = record 0x46 (6 + (if n.isSome then 1 else 0)) (twoBytes e.stamp
        ++ [BitVec.ofNat 8 b.val, BitVec.ofNat 8 v.code, BitVec.ofNat 8 level] ++ presence n (fun x => [BitVec.ofNat 8 x]))) ∧
    (e.notice = .session slot task →
      bytes = record 0x47 6 (twoBytes e.stamp ++ [BitVec.ofNat 8 slot.val, 0#8] ++ twoBytes task))) ∧
  ([Reason.ok, .badKind, .badLength, .badField, .noSession, .sessionState, .notPermitted, .colourClash, .grantsFull, .tasksPresent,
    .noLocation, .locationState, .taskExists, .noTask, .taskState, .chainTaken, .storeFull, .listFull, .busState, .busy].map
      Reason.code = List.range 20) ∧
  ([SessionState.free, .active, .suspended].map SessionState.code = [0, 1, 2] ∧
    [TaskState.waiting, .opened, .closed].map TaskState.code = [1, 2, 3] ∧
    [TaskOutcome.done, .short].map TaskOutcome.code = [0, 1] ∧ [ShortMode.close, .keep].map ShortMode.code = [0, 1] ∧
    [Presence.absent, .present, .suspect, .lost, .mismatch].map Presence.code = [0, 1, 2, 3, 4] ∧
    [ModuleKind.button, .display].map ModuleKind.code = [1, 2] ∧
    [Cause.new, .returned, .replaced, .mismatch, .lost, .absent].map Cause.code = [0, 1, 2, 3, 4, 5] ∧
    (∀ x, [Meaning.task x, .linger x, .idle, .blanked, .direct].map Meaning.code = [0, 1, 2, 3, 4]) ∧
    [Key.confirm, .minus, .plus].map Key.code = [1, 2, 3] ∧
    [PressOutcome.stray, .late, .stale, .superseded, .direct].map PressOutcome.code = [0, 1, 2, 3, 4] ∧
    [BusState.off, .unpowered, .resetting, .enrolling, .service, .brownout].map BusState.code = [0, 1, 2, 3, 4, 5] ∧
    [BusEvent.enrolDone, .chainTooLong, .silent, .speaking, .refillAmbiguous].map BusEvent.code = [0, 1, 2, 3, 4] ∧
    [SupplyEvent.band, .brownout, .recovered, .overload, .overloadEnd].map SupplyEvent.code = [0, 1, 2, 3, 4] ∧
    [SamplingMode.off, .periodic, .continuous].map SamplingMode.code = [0, 1, 2] ∧
    [GovernorMode.none, .steady, .alternate].map GovernorMode.code = [0, 1, 2] ∧
    [LinkOutcome.none, .taken, .notReady, .short].map LinkOutcome.code = [0, 1, 2, 3] ∧
    [Blink.steady, .slow].map Blink.code = [0, 1] ∧ (∀ d : Fin 10, (Glyph.digit d).code = d.val) ∧ Glyph.blank.code = 10 ∧
    Glyph.dash.code = 11 ∧ lampCode none = 0) ∧
  (∀ c : Colour, match c with
    | .red => lampCode (some c) = 1 ∧ c.lights = ⟨true, false, false⟩
    | .green => lampCode (some c) = 2 ∧ c.lights = ⟨false, true, false⟩
    | .blue => lampCode (some c) = 3 ∧ c.lights = ⟨false, false, true⟩
    | .yellow => lampCode (some c) = 4 ∧ c.lights = ⟨true, true, false⟩
    | .cyan => lampCode (some c) = 5 ∧ c.lights = ⟨false, true, true⟩
    | .magenta => lampCode (some c) = 6 ∧ c.lights = ⟨true, false, true⟩
    | .white => lampCode (some c) = 7 ∧ c.lights = ⟨true, true, true⟩)

/-- R92, R107, R109, R111, R136, R157, R162, R170, R171, R174, R177, 6.7 and 9.6: the levels of the lines the part drives. ATTN is
asserted while an answer waits, an entry stands above the mask or a notice is in transmission, and at no other time; RDY is high while
fewer than four answers wait; neither in reset. LDO carries the status byte, the record and then 0x00, most significant bits first,
while LCS is low in a transaction, from its fall on the first bit and after each falling edge of LCK the next, so that each
rising edge finds its own bit; it is high-impedance otherwise (with LCS low and no transaction: assumption 27). xENR is low in
reset, while OFF and in the ENR interval, and high otherwise in ENROLLING and SERVICE. xFSW follows the feed switch, closed exactly in
ENROLLING and SERVICE. xDE is high only while the part sends: after 40 us of quiet (assumption 14), start bit, data bits least
significant first and stop bit of each byte of a frame, with no gap; never in reset or while OFF. -/
def Obligations.OutputLinesFollowTheState : Prop :=
  ∀ s : State,
    (s.attn = true ↔ s.held = false ∧ (s.link.replies ≠ [] ∨ (∃ e ∈ s.notices.entries, s.notices.mask < e.priority) ∨
      s.notices.transmitting ≠ none)) ∧
    (s.rdy = true ↔ s.held = false ∧ s.link.replies.length < 4) ∧
    (s.held = true ∨ s.lcs = true ∨ s.link.outbound = none → ∀ n, s.ldo n = none ∧ s.ldoBit n = none) ∧
    (∀ o, s.held = false → s.lcs = false → s.link.outbound = some o →
      s.ldo 0 = some s.link.status ∧ (∀ n (h : n < o.bytes.length), s.ldo (n + 1) = some o.bytes[n]) ∧
      (∀ n, o.bytes.length ≤ n → s.ldo (n + 1) = some 0#8) ∧
      ∀ n x, s.ldo n = some x → ∀ k : Fin 8, s.ldoBit (8 * n + k.val) = some (x.getLsbD (7 - k.val))) ∧
    (s.ldoAfter [] = s.ldoBit 0 ∧ ∀ (wave : List LinkPins) (p : LinkPins),
      s.ldoAfter (wave ++ [p]) = s.ldoBit ((rises false (wave ++ [p])).length - p.lck.toNat)) ∧
    ∀ b : Fin 4,
      (s.held = true ∨ (s.bus b).state = .off → s.enr b = false ∧ ∀ n, s.de b n = false) ∧
      (s.held = false → (s.bus b).state = .enrolling → (s.enr b = false ↔ (s.bus b).enrLowEnd.isSome = true)) ∧
      (s.held = false → (s.bus b).state = .service → s.enr b = true) ∧
      s.fsw b = (s.feed b).switchClosed ∧
      (s.SupplyInv → (s.fsw b = true ↔ (s.bus b).state = .enrolling ∨ (s.bus b).state = .service)) ∧
      (∀ n, s.de b n = true ↔ (s.pairSlot b n).bit.isSome = true) ∧
      (∀ f, s.held = false → (s.bus b).state ≠ .off → (s.bus b).sent = [f] →
        (∀ n, n < 10 → s.de b n = false) ∧ (∀ n, 10 + 10 * f.bytes.length ≤ n → s.de b n = false) ∧
        ∀ k (h : k < f.bytes.length),
          s.pairSlot b (10 + 10 * k) = { de := true, bit := some .start } ∧
          (∀ j : Fin 8, s.pairSlot b (10 + 10 * k + 1 + j.val) = { de := true, bit := some (.data (f.bytes[k].getLsbD j.val)) }) ∧
          s.pairSlot b (10 + 10 * k + 9) = { de := true, bit := some .stop })

/-! ### Requests of the link port, the notice queue and the scheduler -/

/-- The presence byte and the fields of an optional field (R176). -/
def Sys2Proof.Claims.optional {α : Type} (o : Option α) (f : α → List Field) : List Field :=
  match o with
  | some a => .u8 1 :: f a
  | none => [.u8 0]

/-- A time stamp (R176). -/
def Sys2Proof.Claims.stamp (t : Nat) : Field := .u16 (t % 65536)

/-- The number of locations of a bus in a presence state (R127). -/
def Sys2Proof.Claims.presenceCount (s : State) (b : Fin 4) (p : Presence) : Nat :=
  ((List.finRange 62).filter fun i => decide ((s.loc { bus := b, idx := i }).state = p)).length

/-- The number of task records with a property. -/
def Sys2Proof.Claims.taskCount (s : State) (p : Task → Bool) : Nat := (s.tasks.filter p).length

/-- R19, R102, R127, R172: PART_STATUS, QUERY_SESSION, QUERY_BUS and QUERY_LOCATION change nothing, and answer OK with the
fields their rules list, in that order. -/
def Obligations.QueriesReportAndChangeNothing : Prop :=
  ∀ s : State, Takes s →
    (exec .partStatus s = .next (answered s { kind := 0x81, result := .ok, fields := (
      [.u8 0x2B, .u16 0x0A14, .u8 1, .u8 (1 + s.strapMs0.toNat + 2 * s.strapMs1.toNat),
        .u8 (((List.finRange 8).filter fun i => decide ((s.session i).state ≠ .free)).length),
        .u16 s.tasks.length, .u16 (taskCount s fun t => decide (t.state = .closed)), .u8 s.notices.mask]) })) ∧
    (∀ i : Fin 8, exec (.querySession i.val) s = .next (answered s { kind := 0xA7, result := .ok, fields := (
      [.u8 i.val, .u8 (s.session i).state.code]
        ++ optional (s.session i).colour (fun c => [.u8 c.code]) ++ optional (s.session i).priority (fun p => [.u8 p])
        ++ [.u8 (s.session i).ranges.length]
        ++ (s.session i).ranges.flatMap (fun r => [.u8 r.bus.val, .u8 r.first, .u8 r.last])
        ++ [.u8 (s.session i).pending.length]
        ++ (s.session i).pending.flatMap (fun e => [.u16 e.task, .u16 e.offered, stamp e.press])
        ++ [.u16 (taskCount s fun t => decide (t.slot = i ∧ t.state = .opened)),
            .u16 (taskCount s fun t => decide (t.slot = i ∧ t.state = .waiting))]) })) ∧
    (∀ b : Fin 4, exec (.queryBus b.val) s = .next (answered s { kind := 0x92, result := .ok, fields := (
      [.u8 b.val, .u8 (s.bus b).state.code, .u16 (s.bus b).period, .u16 (s.bus b).lastDuration,
        .u8 (presenceCount s b .absent), .u8 (presenceCount s b .present), .u8 (presenceCount s b .suspect),
        .u8 (presenceCount s b .lost), .u8 (presenceCount s b .mismatch), .u8 (s.bus b).silent.toNat,
        .u8 (s.bus b).phase.toNat, .u8 (s.feed b).mode.code, .u8 (s.feed b).busy.toNat, .u8 (s.feed b).level,
        .u8 (s.feed b).brownout.toNat, .u8 (s.governor b).mode.code, .u8 (s.governor b).scale,
        .u8 (s.governor b).overload.toNat]) })) ∧
    (∀ (l : Loc), s.inService l.bus = true →
      exec (.queryLocation l.bus.val l.node) s = .next (answered s { kind := 0x93, result := .ok, fields := (
      [.u8 l.bus.val, .u8 l.node, .u8 (s.loc l).state.code]
        ++ optional (s.loc l).kind (fun k => [.u8 k.code]) ++ optional (s.loc l).serial (fun n => [.u32 n])
        ++ [.u8 (s.loc l).miss, .u8 (s.loc l).ack.toNat, .u8 (s.loc l).rot.token.val]
        ++ optional (s.loc l).rot.meaning (fun m => [.u8 m.code])
        ++ [.u8 (lampCode (s.loc l).rot.face.colour), .u8 (s.loc l).rot.face.chars.left.code,
            .u8 (s.loc l).rot.face.chars.mid.code, .u8 (s.loc l).rot.face.chars.right.code,
            .u8 (s.loc l).rot.face.blink.code]
        ++ optional (s.loc l).rot.slotStart (fun t => [stamp t])
        ++ optional (s.loc l).rot.hold (fun h => [.u16 h.task, stamp h.expiry])
        ++ optional (s.loc l).rot.linger (fun g => [.u16 g.task, .u8 g.slot.val, stamp g.expiry])
        ++ optional (s.loc l).rot.direct (fun f => [.u8 (lampCode f.colour), .u8 f.chars.left.code, .u8 f.chars.mid.code,
            .u8 f.chars.right.code, .u8 f.blink.code])
        ++ [.u8 (s.loc l).tasks.length] ++ (s.loc l).tasks.map Field.u16) }))

/-- R106, R110, R130, R142, R158, R173: RESET_PART clears every table and queue, puts every bus in service into RESETTING for
500 ms with its first sample due at once, keeps the strap, the lines and the time, and leaves its own answer alone in the
reply queue. The model's choice or reading: the ready sample and the status byte (assumption 23), the MODEL's own counts, which run
on (assumption 25), and the end of an open transaction (assumption 30). -/
def Obligations.CommandResetClearsAndRestarts : Prop :=
  ∀ s : State, Takes s → ∃ t, exec .resetPart s = .next t ∧
    t = { s with
      link := { request := [], replies := [{ kind := 0x82, result := .ok, fields := [] }], lastOutcome := .taken,
                readySample := false, outbound := none, status := 0, shown := false },
      tasks := [], sessions := t.sessions, locs := t.locs, timing := Timing.initial, buses := t.buses, feeds := t.feeds,
      governors := t.governors, notices := { NoticeQueue.initial with nextAge := s.notices.nextAge } } ∧
    (∀ i, t.session i = Session.initial) ∧ (∀ l, t.loc l = Location.initial) ∧ (∀ b, t.governor b = Governor.initial) ∧
    (∀ b, s.inService b = true →
      t.bus b = { Bus.initial .resetting with resettingEnd := some (s.now + 500) } ∧
      t.feed b = Feed.initial (some s.now)) ∧
    (∀ b, s.inService b = false → t.bus b = Bus.initial .off ∧ t.feed b = Feed.initial none)

/-- R150: SET_CLASS refuses a class number above 5, and else stores the clamped priority. The entries already queued, and
the candidate among them, are as before; a notice of the class takes the new priority, or is not made at 0 (R151). R154:
SET_MASK stores the clamped level and answers the numbers of entries above it and at or below it, which add up to the number
of entries.
R61 and R126: SET_TIMING clamps each of its five values to its range, stores them and answers them; SET_SWEEP refuses a
bus number above 3 with BAD_FIELD and a bus out of service with BUS_STATE, and else clamps, stores and answers the period. -/
def Obligations.SettingsAreClampedAndStored : Prop :=
  (∀ (s : State) (cls priority : Nat), Takes s →
     (5 < cls → exec (.setClass cls priority) s = .next (answered s { kind := 0x83, result := .badField, fields := [] })) ∧
     (∀ c, NoticeClass.ofCode cls = some c → ∃ t, exec (.setClass cls priority) s = .next t ∧
       t = answered { s with notices := { s.notices with classes := t.notices.classes } }
         { kind := 0x83, result := .ok, fields := [.u8 cls, .u8 (min 3 priority), .u8 (s.notices.classes.get c)] } ∧
       (∀ c', t.notices.classes.get c' = if c' = c then min 3 priority else s.notices.classes.get c') ∧
       t.notices.candidate = s.notices.candidate ∧
       (∀ n closure, n.cls = c → priority = 0 → t.queueNotice n closure = t) ∧
       (∀ n closure, n.cls = c → 0 < priority → t.notices.entries.length < 32 →
         ∃ e ∈ (t.queueNotice n closure).notices.entries, e.notice = n ∧ e.priority = min 3 priority))) ∧
  (∀ (s : State) (level : Nat), Takes s → ∃ sendable held,
     exec (.setMask level) s = .next (answered { s with notices := { s.notices with mask := min 3 level } }
       { kind := 0x84, result := .ok, fields := [.u8 (min 3 level), .u8 sendable, .u8 held] }) ∧
     sendable = (s.notices.entries.filter fun e => decide (min 3 level < e.priority)).length ∧
     held = (s.notices.entries.filter fun e => decide (e.priority ≤ min 3 level)).length ∧
     sendable + held = s.notices.entries.length) ∧
  (∀ (s : State) (cycle minDwell guard hold linger : Nat), Takes s →
    exec (.setTiming cycle minDwell guard hold linger) s = .next (answered
      { s with timing := { cycle := max 800 (min 4000 cycle), minDwell := max 250 (min 1000 minDwell), guard := min 400 guard,
                           hold := max 1000 (min 10000 hold), linger := min 2000 linger } }
      { kind := 0x85, result := .ok, fields := (
        [.u16 (max 800 (min 4000 cycle)), .u16 (max 250 (min 1000 minDwell)), .u16 (min 400 guard),
          .u16 (max 1000 (min 10000 hold)), .u16 (min 2000 linger)]) })) ∧
  (∀ (s : State) (bus period : Nat), Takes s → 3 < bus →
    exec (.setSweep bus period) s = .next (answered s { kind := 0x86, result := .badField, fields := [] })) ∧
  (∀ (s : State) (b : Fin 4) (period : Nat), Takes s →
    exec (.setSweep b.val period) s = .next (if s.inService b
      then answered (s.setBus b { s.bus b with period := max 20 (min 250 period) })
        { kind := 0x86, result := .ok, fields := [.u16 (max 20 (min 250 period))] }
      else answered s { kind := 0x86, result := .busState, fields := [] }))

/-- R62 and R63: DIRECT_SET on a location it is taken at stores the pattern and sets the fresh-token mark; DIRECT_END removes
the pattern. Nothing else at the location changes, and no other location does. -/
def Obligations.DirectModeIsSetAndEnded : Prop :=
  ∀ (s : State) (l : Loc), Takes s → s.inService l.bus = true →
    (∀ (colour c0 c1 c2 blink : Nat) (c : Option Colour) (g0 g1 g2 : Glyph) (k : Blink),
      (s.bus l.bus).state = .service → (s.loc l).state = .present ∨ (s.loc l).state = .suspect →
      colour = lampCode c → c0 = g0.code → c1 = g1.code → c2 = g2.code → blink = k.code →
      exec (.directSet l.bus.val l.node colour c0 c1 c2 blink) s = .next (answered
        (s.setLoc l { s.loc l with rot := { (s.loc l).rot with
          direct := some { colour := c, chars := { left := g0, mid := g1, right := g2 }, blink := k }, fresh := true } })
        { kind := 0x94, result := .ok, fields := [] })) ∧
    ((s.loc l).rot.direct.isSome = true →
      exec (.directEnd l.bus.val l.node) s = .next (answered
        (s.setLoc l { s.loc l with rot := { (s.loc l).rot with direct := none } })
        { kind := 0x95, result := .ok, fields := [] }))

/-! ### Requests on a bus -/

/-- The instant of the next sample after SET_FEED (R133, R140): a running sample decides at its completion; a bus in
UNPOWERED or BROWNOUT goes on; an unchanged mode changes nothing (assumption 21); else the change takes effect at once. -/
def Sys2Proof.Claims.sampleAfterSetFeed (c : Bus) (f : Feed) (m : SamplingMode) (now : Nat) : Option Nat :=
  if f.busy = true ∨ c.state = .unpowered ∨ c.state = .brownout ∨ m = f.mode then f.next
  else match m, f.lastStart with
    | .off, _ => none
    | .continuous, _ => some now
    | .periodic, some t => if t + 2000 ≤ now then some now else some (t + 2000)
    | .periodic, none => some now

/-- R133, R134, R140: SET_FEED on a bus in service stores the clamped capacity and the mode, clears the escalation flag unless
PERIODIC is selected, and reckons the next sample; the level, zero-run count, brownout flag and switch stay. -/
def Obligations.SetFeedStoresCapacityAndMode : Prop :=
  ∀ (s : State) (b : Fin 4) (capacity : Nat) (m : SamplingMode), Takes s →
    exec (.setFeed b.val capacity m.code) s = .next (if s.inService b
      then answered ((s.setGovernor b { s.governor b with capacity := 10 * max 50 (min 800 capacity) }).setFeed b
          { s.feed b with mode := m, escalated := (s.feed b).escalated && decide (m = .periodic),
                          next := sampleAfterSetFeed (s.bus b) (s.feed b) m s.now })
        { kind := 0x87, result := .ok, fields := [.u16 (max 50 (min 800 capacity)), .u8 m.code] }
      else answered s { kind := 0x87, result := .busState, fields := [] })

/-- R91, R92, R101, R108, R122, R147: ENROL on a bus in SERVICE answers the number of PRESENT or SUSPECT locations. With no
exchange of a sweep in progress the release phase begins at once; else the exchange is carried to its end first. ENROL is
refused with BUSY in ENROLLING and with BUS_STATE in every other state. That the scheduled start is absent outside SERVICE is the
model's reading (assumption 24). -/
def Obligations.EnrolStartsTheReleasePhase : Prop :=
  ∀ (s : State) (b : Fin 4), Takes s →
    ((s.bus b).state = .service →
      exec (.enrol b.val) s = .next (answered
        ((s.setGovernor b { s.governor b with phaseExpiry := none }).setBus b
          (if (s.bus b).exchange.ofSweep then { s.bus b with state := .enrolling, scheduled := none }
            else { s.bus b with state := .enrolling, scheduled := none, exchange := .none, sent := [.release, .release],
                                waitEnd := none, resettingEnd := none, enrLowEnd := some (s.now + 50) }))
        { kind := 0x90, result := .ok, fields := [.u8 (presenceCount s b .present + presenceCount s b .suspect)] })) ∧
    ((s.bus b).state = .enrolling →
      exec (.enrol b.val) s = .next (answered s { kind := 0x90, result := .busy, fields := [] })) ∧
    ((s.bus b).state ≠ .service → (s.bus b).state ≠ .enrolling →
      exec (.enrol b.val) s = .next (answered s { kind := 0x90, result := .busState, fields := [] }))

/-- R128, with R122 and R136: what RESET_BUS does in each bus state. That the scheduled start is absent outside SERVICE is the
model's reading (assumption 24). -/
def Obligations.ResetBusActsByState : Prop :=
  ∀ (s : State) (b : Fin 4), Takes s →
    ((s.bus b).state = .service ∨ (s.bus b).state = .enrolling ∨ (s.bus b).state = .resetting →
      exec (.resetBus b.val) s = .next (answered
        (((s.setBus b { s.bus b with
            state := .resetting, silent := false, phase := false, scheduled := none, exchange := .none, waitEnd := none,
            enrLowEnd := none, resettingEnd := some (s.now + 500) }).setGovernor b { s.governor b with
            mode := .none, scale := 0, overload := false, phaseExpiry := none }).setFeed b { s.feed b with
            zeroRun := 0, switchClosed := false })
        { kind := 0x91, result := .ok, fields := [.u8 (s.bus b).state.code] })) ∧
    ((s.bus b).state = .brownout →
      exec (.resetBus b.val) s = .next (answered
        (((s.setBus b { s.bus b with silent := false, phase := false }).setGovernor b { s.governor b with
            mode := .none, scale := 0, overload := false, phaseExpiry := none }).setFeed b { s.feed b with zeroRun := 0 })
        { kind := 0x91, result := .ok, fields := [.u8 (s.bus b).state.code] })) ∧
    ((s.bus b).state = .off ∨ (s.bus b).state = .unpowered →
      exec (.resetBus b.val) s = .next (answered s { kind := 0x91, result := .busState, fields := [] }))

/-! ### Session requests -/

/-- A request is refused with the given answer (R3, R24, R168). -/
def Sys2Proof.Claims.refused (c : Instr) (s : State) (kind : Nat) (r : Reason) (fields : List Field := []) : Prop :=
  exec c s = .next (answered s { kind := kind, result := r, fields := fields })

/-- R3, R4, R6, R8, R10, R11, R14, R17, R19: the refusals of the session requests. A slot number above 7 comes first, whatever the other
fields; then the slot's state; then the fields. -/
def Obligations.SessionRequestsAreRefused : Prop :=
  ∀ s : State, Takes s →
    (∀ slot x y z : Nat, 7 < slot →
      refused (.openSession slot x y) s 0xA0 .badField ∧ refused (.grant slot x y z) s 0xA1 .badField ∧
      refused (.revoke slot x) s 0xA2 .badField ∧ refused (.setPriority slot x) s 0xA3 .badField ∧
      refused (.suspend slot) s 0xA4 .badField ∧ refused (.resume slot) s 0xA5 .badField ∧
      refused (.closeSession slot) s 0xA6 .badField ∧ refused (.querySession slot) s 0xA7 .badField) ∧
    (∀ (i : Fin 8) (x y z : Nat), (s.session i).state = .free →
      refused (.grant i.val x y z) s 0xA1 .noSession ∧ refused (.revoke i.val x) s 0xA2 .noSession ∧
      refused (.setPriority i.val x) s 0xA3 .noSession ∧ refused (.suspend i.val) s 0xA4 .noSession ∧
      refused (.resume i.val) s 0xA5 .noSession ∧ refused (.closeSession i.val) s 0xA6 .noSession ∧
      (x < 1 ∨ 7 < x ∨ 3 < y → refused (.openSession i.val x y) s 0xA0 .badField)) ∧
    (∀ (i : Fin 8) (x y z : Nat), (s.session i).state ≠ .free →
      refused (.openSession i.val x y) s 0xA0 .sessionState ∧
      (1 + s.strapMs0.toNat + 2 * s.strapMs1.toNat ≤ x ∨ y < 1 ∨ z < y ∨ 62 < z →
        refused (.grant i.val x y z) s 0xA1 .badField) ∧
      (x < 1 + s.strapMs0.toNat + 2 * s.strapMs1.toNat → 1 ≤ y → y ≤ z → z ≤ 62 → 4 ≤ (s.session i).ranges.length →
        refused (.grant i.val x y z) s 0xA1 .grantsFull) ∧
      ((s.session i).ranges.length ≤ x → refused (.revoke i.val x) s 0xA2 .badField) ∧
      (3 < x → refused (.setPriority i.val x) s 0xA3 .badField)) ∧
    (∀ i : Fin 8, ((s.session i).state = .suspended → refused (.suspend i.val) s 0xA4 .sessionState) ∧
      ((s.session i).state = .active → refused (.resume i.val) s 0xA5 .sessionState))

/-- R4, R10, R6, R7: OPEN_SESSION fills a FREE slot; SET_PRIORITY replaces the priority of a slot in use and answers the one it
held before; a GRANT that passes the checks appends its range and answers its index, unless another slot in use with the same
colour has an overlapping range on the same bus; then it is refused with the lowest-numbered such slot.
R8: REVOKE removes the indexed range, unless WAITING or OPEN tasks of the session lie where only that range covers; then it
is refused with their number. R11: SUSPEND of an ACTIVE session changes its state, ends every hold that names a task of the
session, and answers the number of its WAITING and OPEN tasks; nothing else changes. -/
def Obligations.SessionRequestsAreTaken : Prop :=
  (∀ (s : State) (i : Fin 8), Takes s →
     (∀ (c : Colour) (priority : Nat), (s.session i).state = .free → priority ≤ 3 →
       exec (.openSession i.val c.code priority) s = .next (answered
         (s.setSession i { state := .active, colour := some c, priority := some priority, ranges := [], pending := [] })
         { kind := 0xA0, result := .ok, fields := [.u8 i.val] })) ∧
     (∀ priority p : Nat, (s.session i).state ≠ .free → (s.session i).priority = some p → priority ≤ 3 →
       exec (.setPriority i.val priority) s = .next (answered
         (s.setSession i { s.session i with priority := some priority })
         { kind := 0xA3, result := .ok, fields := [.u8 p] }))) ∧
  (∀ (s : State) (i : Fin 8) (b : Fin 4) (first last : Nat), Takes s → (s.session i).state ≠ .free → s.inService b = true →
     1 ≤ first → first ≤ last → last ≤ 62 → (s.session i).ranges.length < 4 →
     let clash : Fin 8 → Prop := fun j => j ≠ i ∧ (s.session j).state ≠ .free ∧ (s.session j).colour = (s.session i).colour ∧
       ∃ r ∈ (s.session j).ranges, r.bus = b ∧ r.first ≤ last ∧ first ≤ r.last
     ((∀ j, ¬ clash j) → exec (.grant i.val b.val first last) s = .next (answered
       (s.setSession i { s.session i with ranges := (s.session i).ranges ++ [{ bus := b, first := first, last := last }] })
       { kind := 0xA1, result := .ok, fields := [.u8 (s.session i).ranges.length] })) ∧
     (∀ j, clash j → (∀ k, clash k → j ≤ k) → exec (.grant i.val b.val first last) s = .next (answered s
       { kind := 0xA1, result := .colourClash, fields := [.u8 j.val] }))) ∧
  (∀ (s : State) (i : Fin 8) (index : Nat) (r : Range), Takes s → (s.session i).state ≠ .free →
     (s.session i).ranges[index]? = some r →
     let left := (s.session i).ranges.eraseIdx index
     let bare := s.tasks.filter fun t => decide (t.slot = i ∧ t.state ≠ .closed) && r.covers t.loc
       && !left.any fun q => q.covers t.loc
     (bare = [] → exec (.revoke i.val index) s = .next (answered (s.setSession i { s.session i with ranges := left })
       { kind := 0xA2, result := .ok, fields := [.u8 left.length] })) ∧
     (bare ≠ [] → exec (.revoke i.val index) s = .next (answered s
       { kind := 0xA2, result := .tasksPresent, fields := [.u16 bare.length] }))) ∧
  (∀ (s : State) (i : Fin 8), Takes s → (s.session i).state = .active → ∃ t, exec (.suspend i.val) s = .next t ∧
     t = answered { s with sessions := s.sessions.set i.val { s.session i with state := .suspended }, locs := t.locs }
       { kind := 0xA4, result := .ok, fields := [.u16 (taskCount s fun u => decide (u.slot = i ∧ u.state ≠ .closed))] } ∧
     ∀ l, t.loc l = { s.loc l with rot := { (s.loc l).rot with
       hold := (s.loc l).rot.hold.filter fun h => !(s.findTask h.task).any fun u => decide (u.slot = i) } })

/-- One held confirmation at RESUME (R15): declined LATE or SUPERSEDED, or the CONFIRM rule with its offered quantity, which is
not above the task's remaining quantity. -/
def Sys2Proof.Claims.heldConfirmation (i : Fin 8) (r : State × Nat) (e : PendingEntry) : State × Nat :=
  match r.1.findTask e.task with
  | none => r
  | some t =>
    if t.state ≠ .opened then (r.1.queueNotice (.press t.loc .confirm .late (some e.task) (some i)), r.2)
    else if t.amended.any (fun a => decide (e.press < a)) then
      (r.1.queueNotice (.press t.loc .confirm .superseded (some e.task) (some i)), r.2)
    else (r.1.applyConfirm t (min e.offered t.remaining), r.2 + 1)

/-- R14 and R15: RESUME of a SUSPENDED session applies its held confirmations from the first to the last, empties the list,
makes the session ACTIVE, and answers how many were applied and how many declined. No other session changes. That an entry whose
task no record carries, which R13 rules out, is declined without a notice is the model's choice (assumption 22). -/
def Obligations.ResumeAppliesHeldConfirmations : Prop :=
  ∀ (s : State) (i : Fin 8), Takes s → (s.session i).state = .suspended →
    let r := (s.session i).pending.foldl (heldConfirmation i) (s, 0)
    exec (.resume i.val) s = .next (answered (r.1.setSession i { s.session i with state := .active, pending := [] })
      { kind := 0xA5, result := .ok, fields := [.u8 r.2, .u8 ((s.session i).pending.length - r.2)] }) ∧
    r.2 ≤ (s.session i).pending.length ∧ ∀ j, r.1.session j = s.session j

/-- R17: CLOSE_SESSION frees the WAITING and OPEN tasks of the session and no other, takes them out of the task lists, ends the
holds and lingers of the session's tasks, frees the slot, queues nothing, and answers the numbers of tasks freed and of
held confirmations discarded, as they stood at its start (the model's reading: assumption 28). R20 gives the premise that each id
is in at most one record. -/
def Obligations.CloseSessionFreesItsTasks : Prop :=
  ∀ (s : State) (i : Fin 8), Takes s → (s.session i).state ≠ .free → (s.tasks.map Task.id).Nodup →
    let freed := s.tasks.filter fun u => decide (u.slot = i ∧ u.state ≠ .closed)
    ∃ t, exec (.closeSession i.val) s = .next t ∧
    t = answered { s with sessions := s.sessions.set i.val Session.initial, locs := t.locs,
                          tasks := s.tasks.filter fun u => !decide (u.slot = i ∧ u.state ≠ .closed) }
      { kind := 0xA6, result := .ok, fields := [.u16 freed.length, .u8 (s.session i).pending.length] } ∧
    ∀ l, t.loc l = { s.loc l with
      tasks := (s.loc l).tasks.filter fun id => !freed.any fun u => decide (u.id = id ∧ u.loc = l),
      rot := { (s.loc l).rot with
        hold := (s.loc l).rot.hold.filter fun h => !(s.findTask h.task).any fun u => decide (u.slot = i),
        linger := (s.loc l).rot.linger.filter fun g => decide (g.slot ≠ i) } }

/-! ### Task requests -/

/-- The checks of POST_TASK in the order of R27, and the refusal of the first that fails. -/
def Sys2Proof.Claims.postRefusal (s : State) (id slot bus node requested shortMode pred : Nat) :
    Option (Reason × List Field) :=
  if id < 1 ∨ 65535 < id then some (.badField, [])
  else match s.tasks.find? fun t => decide (t.id = id) with
  | some t => some (.taskExists, [.u8 t.state.code])
  | none =>
    if h : 7 < slot then some (.badField, [])
    else if (s.session ⟨slot, by omega⟩).state = .free then some (.noSession, [])
    else if 1 + s.strapMs0.toNat + 2 * s.strapMs1.toNat ≤ bus ∨ node < 1 ∨ 62 < node then some (.noLocation, [])
    else if (s.session ⟨slot, by omega⟩).ranges.all fun r => !decide (r.bus.val = bus ∧ r.first ≤ node ∧ node ≤ r.last) then
      some (.notPermitted, [])
    else if requested < 1 ∨ 999 < requested ∨ 1 < shortMode then some (.badField, [])
    else
      let later : Option (Reason × List Field) :=
        if s.tasks.length = 512 then some (.storeFull, [.u16 (taskCount s fun t => decide (t.state = .closed))])
        else if h2 : bus < 4 ∧ node - 1 < 62 then
          if 8 ≤ (s.loc { bus := ⟨bus, h2.1⟩, idx := ⟨node - 1, h2.2⟩ }).tasks.length then some (.listFull, []) else none
        else none
      if pred = 0 then later
      else match s.tasks.find? fun t => decide (t.id = pred) with
        | none => some (.noTask, [])
        | some p =>
          if p.slot.val ≠ slot ∨ p.state = .closed then some (.taskState, [])
          else match p.succ with
            | some q => some (.chainTaken, [.u16 q])
            | none => later

/-- R27: every POST_TASK that fails a check is refused for the first that fails, and changes nothing else (R24). R20 gives the
premise on the number of records. -/
def Obligations.PostTaskChecksInOrder : Prop :=
  ∀ (s : State) (id slot bus node requested shortMode pred : Nat) (r : Reason) (fields : List Field), Takes s →
    s.tasks.length ≤ 512 → postRefusal s id slot bus node requested shortMode pred = some (r, fields) →
    exec (.postTask id slot bus node requested shortMode pred) s = .next (answered s
      { kind := 0xB0, result := r, fields := fields })

/-- R28: a POST_TASK that passes every check of R27 adds the record, links it behind its predecessor and appends it to its
location's list. -/
def Obligations.PostTaskPlacesTheTask : Prop :=
  ∀ (s : State) (id requested pred : Nat) (i : Fin 8) (l : Loc) (mode : ShortMode), Takes s → s.tasks.length ≤ 512 →
    postRefusal s id i.val l.bus.val l.node requested mode.code pred = none →
    exec (.postTask id i.val l.bus.val l.node requested mode.code pred) s = .next (answered
      ({ s with tasks := ((s.tasks.map fun (u : Task) => if pred ≠ 0 ∧ u.id = pred then { u with succ := some id } else u) ++
          ([{ id := id, slot := i, loc := l, requested := requested, picked := 0, offered := requested, shortMode := mode,
              state := if pred = 0 then .opened else .waiting, outcome := none, pred := if pred = 0 then none else some pred,
              succ := none, amended := none, closure := none }] : List Task)) }.setLoc l
        { s.loc l with tasks := (s.loc l).tasks ++ [id] })
      { kind := 0xB0, result := .ok, fields := (
        [.u16 id, .u8 (if pred = 0 then 2 else 1), .u8 ((s.loc l).tasks.length + 1)]) })

/-- R32, R33 and R13: the refusals of AMEND_TASK in their order, and what a taken one does: requested and offered, the amended
instant, the end of a hold on the task, and a PRESS SUPERSEDED notice for each held confirmation it removes. -/
def Obligations.AmendTaskResetsOffered : Prop :=
  ∀ (s : State) (id requested : Nat), Takes s →
    (s.findTask id = none →
      exec (.amendTask id requested) s = .next (answered s { kind := 0xB1, result := .noTask, fields := [] })) ∧
    (∀ t, s.findTask id = some t →
      (∀ o, t.state = .closed → t.outcome = some o →
        exec (.amendTask id requested) s = .next (answered s
          { kind := 0xB1, result := .taskState, fields := [.u8 o.code] })) ∧
      (t.state ≠ .closed → requested ≤ t.picked ∨ 999 < requested →
        exec (.amendTask id requested) s = .next (answered s
          { kind := 0xB1, result := .badField, fields := [.u16 t.picked] })) ∧
      (t.state ≠ .closed → t.picked < requested → requested ≤ 999 →
        let gone := ((s.session t.slot).pending.filter fun e => decide (e.task = id)).length
        let u := (({ s with tasks := (s.tasks.map fun (x : Task) => if x.id = id then
              { x with requested := requested, offered := requested - x.picked, amended := some s.now } else x) }.setSession
            t.slot { s.session t.slot with pending := (s.session t.slot).pending.filter fun e => decide (e.task ≠ id) }).setLoc
            t.loc { s.loc t.loc with rot := { (s.loc t.loc).rot with
              hold := (s.loc t.loc).rot.hold.filter fun h => decide (h.task ≠ id) } })
        exec (.amendTask id requested) s = .next (answered
          (u.queueNotices (List.replicate gone (.press t.loc .confirm .superseded (some id) (some t.slot))))
          { kind := 0xB1, result := .ok, fields := (
            [.u16 requested, .u16 t.picked, .u16 (requested - t.picked), .u8 gone]) })))

/-- R34, R35 and R37: a withdrawal without cascade frees the one record, in each of the four cases of the chain around it, and
takes the task out of its list, its session's pending list and its location's hold, with no notice. -/
def Obligations.WithdrawSplicesTheChain : Prop :=
  ∀ (s : State) (id : Nat) (t : Task), Takes s → s.StoreInv → s.findTask id = some t → t.state ≠ .closed →
    ∃ u, exec (.withdrawTask id 0) s = .next u ∧
      u = answered ({ s with tasks := u.tasks }.setSession t.slot
          { s.session t.slot with pending := (s.session t.slot).pending.filter fun e => decide (e.task ≠ id) } |>.setLoc t.loc
          { s.loc t.loc with
            tasks := (s.loc t.loc).tasks.filter fun k => decide (k ≠ id),
            rot := { (s.loc t.loc).rot with hold := (s.loc t.loc).rot.hold.filter fun h => decide (h.task ≠ id) } })
        { kind := 0xB2, result := .ok, fields := [.u16 1] } ∧
      u.tasks = (s.tasks.filter fun x => decide (x.id ≠ id)).map fun x =>
        if t.pred = some x.id then { x with succ := t.succ }
        else if t.succ = some x.id then
          (if t.pred = none then { x with pred := none, state := .opened } else { x with pred := t.pred })
        else x

/-- A task is reached from another by following successor links (R36). -/
inductive Sys2Proof.Claims.Reaches (s : State) : Nat → Nat → Prop where
  | here (id : Nat) : Reaches s id id
  | next (id q r : Nat) (t : Task) : s.findTask id = some t → t.succ = some q → Reaches s q r → Reaches s id r

/-- R36 and R37: a withdrawal with cascade frees the named task and every task reached from it by successor links, and no other;
its predecessor, if any, ends the shortened chain. The answer gives the number of records freed. -/
def Obligations.CascadeFreesTheFollowers : Prop :=
  ∀ (s : State) (id : Nat) (t : Task), Takes s → s.StoreInv → s.findTask id = some t → t.state ≠ .closed →
    ∃ u n, exec (.withdrawTask id 1) s = .next u ∧
      u = answered { s with tasks := u.tasks, sessions := u.sessions, locs := u.locs }
        { kind := 0xB2, result := .ok, fields := [.u16 n] } ∧
      n + u.tasks.length = s.tasks.length ∧
      (∀ q, Reaches s id q → u.findTask q = none) ∧
      (∀ q, ¬ Reaches s id q →
        u.findTask q = (s.findTask q).map fun x => if t.pred = some x.id then { x with succ := none } else x) ∧
      (∀ l, u.loc l = { s.loc l with
        tasks := (u.loc l).tasks, rot := { (s.loc l).rot with hold := (u.loc l).rot.hold } }) ∧
      (∀ l q, q ∈ (u.loc l).tasks ↔ q ∈ (s.loc l).tasks ∧ ¬ Reaches s id q) ∧
      (∀ l h, (u.loc l).rot.hold = some h ↔ (s.loc l).rot.hold = some h ∧
        ¬ (Reaches s id h.task ∧ ∃ x, s.findTask h.task = some x ∧ x.loc = l)) ∧
      (∀ i, u.session i = { s.session i with pending := (u.session i).pending }) ∧
      (∀ i e, e ∈ (u.session i).pending ↔ e ∈ (s.session i).pending ∧ ¬ Reaches s id e.task)

/-- R39: QUERY_TASK answers the fields of the record, in the order of the rule; a CLOSED record is then freed, and a WAITING or
OPEN one stays as it is. -/
def Obligations.QueryTaskReportsAndFreesClosed : Prop :=
  ∀ (s : State) (id : Nat), Takes s →
    (s.findTask id = none →
      exec (.queryTask id) s = .next (answered s { kind := 0xB3, result := .noTask, fields := [] })) ∧
    (∀ t, s.findTask id = some t →
      exec (.queryTask id) s = .next (answered
        (if t.state = .closed then { s with tasks := s.tasks.filter fun u => decide (u.id ≠ id) } else s)
        { kind := 0xB3, result := .ok, fields := (
          [.u16 id, .u8 t.slot.val, .u8 t.loc.bus.val, .u8 t.loc.node, .u8 t.state.code]
            ++ optional t.outcome (fun o => [.u8 o.code])
            ++ [.u16 t.requested, .u16 t.picked, .u16 (t.requested - t.picked), .u16 t.offered, .u8 t.shortMode.code]
            ++ optional t.pred (fun p => [.u16 p]) ++ optional t.succ (fun q => [.u16 q])
            ++ optional t.amended (fun a => [stamp a])
            ++ optional (if t.state = .closed then none else some ((s.loc t.loc).tasks.idxOf id + 1)) (fun n => [.u8 n])
            ++ [.u8 ((s.session t.slot).pending.filter fun e => decide (e.task = id)).length]) }))

/-- The location fields of a request name no location of a bus in service (R27, R62, R63, R102). -/
def Sys2Proof.Claims.nowhere (s : State) (bus node : Nat) : Prop :=
  1 + s.strapMs0.toNat + 2 * s.strapMs1.toNat ≤ bus ∨ node < 1 ∨ 62 < node

/-- R34, R62, R63, R101, R102, R127, R128, R140: the refusals of the requests on a bus, on a location and of WITHDRAW_TASK, beside
those that other statements give. -/
def Obligations.BusLocationAndWithdrawalRefusals : Prop :=
  ∀ s : State, Takes s →
    (∀ bus x y : Nat, 3 < bus →
      refused (.setFeed bus x y) s 0x87 .badField ∧ refused (.enrol bus) s 0x90 .badField ∧
      refused (.resetBus bus) s 0x91 .badField ∧ refused (.queryBus bus) s 0x92 .badField) ∧
    (∀ (b : Fin 4) (x mode : Nat), 2 < mode → refused (.setFeed b.val x mode) s 0x87 .badField) ∧
    (∀ bus node c x y z k : Nat, nowhere s bus node →
      refused (.queryLocation bus node) s 0x93 .noLocation ∧ refused (.directSet bus node c x y z k) s 0x94 .noLocation ∧
      refused (.directEnd bus node) s 0x95 .noLocation) ∧
    (∀ (l : Loc) (c x y z k : Nat), s.inService l.bus = true →
      (7 < c ∨ 11 < x ∨ 11 < y ∨ 11 < z ∨ 1 < k →
        refused (.directSet l.bus.val l.node c x y z k) s 0x94 .badField) ∧
      (c ≤ 7 → x ≤ 11 → y ≤ 11 → z ≤ 11 → k ≤ 1 → (s.bus l.bus).state ≠ .service →
        refused (.directSet l.bus.val l.node c x y z k) s 0x94 .busState) ∧
      (c ≤ 7 → x ≤ 11 → y ≤ 11 → z ≤ 11 → k ≤ 1 → (s.bus l.bus).state = .service →
        (s.loc l).state ≠ .present → (s.loc l).state ≠ .suspect →
        refused (.directSet l.bus.val l.node c x y z k) s 0x94 .locationState) ∧
      ((s.loc l).rot.direct = none → refused (.directEnd l.bus.val l.node) s 0x95 .locationState)) ∧
    (∀ id cascade : Nat,
      (s.findTask id = none → refused (.withdrawTask id cascade) s 0xB2 .noTask) ∧
      (∀ t, s.findTask id = some t →
        (∀ o, t.state = .closed → t.outcome = some o → refused (.withdrawTask id cascade) s 0xB2 .taskState [.u8 o.code]) ∧
        (t.state ≠ .closed → 1 < cascade → refused (.withdrawTask id cascade) s 0xB2 .badField)))

/-! ### All requests -/

/-- R165, R168, R169, R178: a kind that R169 does not list is answered BAD_KIND with the kind received, and a length other than the
one R178 gives is answered BAD_LENGTH with the length required, when the transaction that carries them in full ends. -/
def Obligations.UnknownKindsAndLengthsAreAnswered : Prop :=
  (∀ (s : State) (kind : Nat), Takes s → exec (.unknownRequest kind) s = .next (answered s
    { kind := 0x80, result := .badKind, fields := [.u8 kind] })) ∧
  (∀ (kind length : Nat) (body : List Byte),
    (recognisedKind kind = false → readRequest kind length body = .badKind kind) ∧
    (∀ required, requestLength kind = some required → length ≠ required →
      readRequest kind length body = .badLength kind required) ∧
    (recognisedKind kind = true ↔ (requestLength kind).isSome = true)) ∧
  (∀ (s : State) (o : Outbound) (kind length : Byte) (extra : List Byte) (wave : List LinkPins) (required : Nat), s.held = false →
    ldiBytes true wave = length :: extra → s.link.outbound = some o → s.link.readySample = true → s.link.replies.length < 4 → s.link.request = [kind] →
    requestLength kind.toNat = some required → length.toNat ≠ required → length.toNat ≤ extra.length ∨ 60 < length.toNat →
    ∃ t, exec (.lcsRise wave) s = .next t ∧
      t.link.replies.getLast? = some { kind := kind.toNat + 0x80, result := .badLength, fields := [.u8 required] } ∧
      t.tasks.length ≤ s.tasks.length ∧ t.sessions = s.sessions ∧ t.locs = s.locs) ∧
  (∀ (s : State) (o : Outbound) (kind length : Byte) (extra : List Byte) (wave : List LinkPins), s.held = false →
    ldiBytes true wave = length :: extra →
    s.link.outbound = some o → s.link.readySample = true → s.link.replies.length < 4 → s.link.request = [kind] →
    kind ≠ 0 → recognisedKind kind.toNat = false → length.toNat ≤ extra.length ∨ 60 < length.toNat →
    ∃ t, exec (.lcsRise wave) s = .next t ∧ t.link.lastOutcome = .taken ∧
      t.link.replies.getLast? = some { kind := 0x80, result := .badKind, fields := [.u8 kind.toNat] } ∧
      t.tasks.length ≤ s.tasks.length ∧ t.sessions = s.sessions ∧ t.locs = s.locs)

/-- R3, R24, R166, R167, R168: every request that is taken leaves exactly one answer, of the kind its request gives, at the end
of the reply queue (alone there after RESET_PART, R173), and a refused one changes nothing else. R165, R167, R171, R174: with
four answers waiting a request is not taken and only its outcome shows; while the part is in reset the command finds no link
port. That this is the effect of a request row in those states is the model's choice (assumption 5). -/
def Obligations.EveryRequestLeavesOneAnswerOrNone : Prop :=
  (∀ (c : Instr) (s : State), isRequest c = true → Takes s →
     ∃ t a, exec c s = .next t ∧
       t.link.replies = (if c = .resetPart then [] else s.link.replies) ++ [a] ∧ a.kind = answerKind c ∧
       t.link.lastOutcome = .taken ∧ (a.result ≠ .ok → t = answered s a)) ∧
  (∀ (c : Instr) (s : State), isRequest c = true →
     (s.held = true → exec c s = .next s) ∧
     (s.held = false → 4 ≤ s.link.replies.length →
       exec c s = .next { s with link := { s.link with lastOutcome := .notReady } }))

/-! ### Sweeps, visits, polls and probes -/

/-- `i` is the first location of the bus, from index `k` on, with the property. -/
def Sys2Proof.Claims.firstFrom (s : State) (b : Fin 4) (k : Nat) (p : Location → Prop) (i : Fin 62) : Prop :=
  k ≤ i.val ∧ p (s.loc { bus := b, idx := i }) ∧
    ∀ j : Fin 62, k ≤ j.val → j < i → ¬ p (s.loc { bus := b, idx := j })

/-- No location of the bus, from index `k` on, has the property. -/
def Sys2Proof.Claims.noneFrom (s : State) (b : Fin 4) (k : Nat) (p : Location → Prop) : Prop :=
  ∀ j : Fin 62, k ≤ j.val → ¬ p (s.loc { bus := b, idx := j })

/-- R115: what follows in a sweep from index `k` on: the next PRESENT or SUSPECT location is visited; after the last, in a
sweep whose counter is a multiple of 8, the LOST locations are polled; then exactly one LOST location is probed for
(R120); else the sweep closes. R44, R116, R146, R179: an attempt plans the location, sends one LAMP frame of the planned content
with the sweep's scale (0 without a colour), mode, phase bit, acknowledge bit and token, and awaits the answer. That a sweep whose
poll leaves exactly one LOST location probes for it itself, and not the next sweep, is the model's choice (assumption 33). -/
def Obligations.SweepPartsFollowInOrder : Prop :=
  (∀ (s : State) (b : Fin 4) (k : Nat) (close : State → State),
     let present : Location → Prop := fun x => x.state = .present ∨ x.state = .suspect
     let lost : Location → Prop := fun x => x.state = .lost
     let lookOrClose : State := if (List.finRange 62).countP (fun i => decide (lost (s.loc { bus := b, idx := i }))) = 1
       then s.refillPart b close else close s
     (∀ i, firstFrom s b k present i → s.visitPart b k close = s.attempt { bus := b, idx := i } false) ∧
     (noneFrom s b k present → s.visitPart b k close = s.pollPart b 0 close) ∧
     (∀ i, (s.bus b).counter % 8 = 0 → firstFrom s b k lost i →
       s.pollPart b k close = s.setBus b { s.bus b with sent := [.identify (i.val + 1)], exchange := .poll i }) ∧
     ((s.bus b).counter % 8 = 0 → noneFrom s b k lost → s.pollPart b k close = lookOrClose) ∧
     ((s.bus b).counter % 8 ≠ 0 → s.pollPart b k close = lookOrClose) ∧
     (∀ i : Fin 62, (∀ j, lost (s.loc { bus := b, idx := j }) ↔ j = i) →
       s.refillPart b close = s.setBus b { s.bus b with sent := [.look i.val], exchange := .probeLook i })) ∧
  (∀ (s : State) (l : Loc) (second : Bool),
     let r := (s.choose l).settle s.now
     let g := s.governor l.bus
     s.attempt l second = (s.setLoc l { s.loc l with rot := r }).setBus l.bus { s.bus l.bus with
       exchange := .visit l.idx second, sweepVisited := true,
       sent := [.lamp l.node r.face (if r.face.colour = none then 0 else g.scale) (decide (g.mode = .alternate))
         (s.bus l.bus).phase (s.loc l).ack r.token] })

/-- R45, R114, R115, R143 to R147: a sweep whose scheduled start has come on a bus in SERVICE raises the counter, has the governor
compute, and begins with the first visit. With nothing to visit it polls the first LOST location in a sweep whose counter is a
multiple of 8 (R119), and else probes for the one LOST location (R120) or, with none or several, ends at once, due again after
the period; with several the ambiguity flag is set, with REFILL_AMBIGUOUS if it was clear (R121). Before its scheduled start
nothing happens (assumption 2). -/
def Obligations.SweepStartsWhenDue : Prop :=
  ∀ (s : State) (b : Fin 4),
    let started : State := (s.setBus b { s.bus b with
      counter := if (s.bus b).counter = 255 then 0 else (s.bus b).counter + 1, scheduled := none, sweepStart := s.now,
      sweepVisited := false, sweepGood := false }).governSweep b
    (s.bus b).counter ≤ 255 →
    (∀ due i, (s.bus b).state = .service → (s.bus b).exchange = .none → (s.bus b).scheduled = some due → due ≤ s.now →
      firstFrom s b 0 (fun x => x.state = .present ∨ x.state = .suspect) i →
      exec (.sweepStart b) s = .next (started.attempt { bus := b, idx := i } false)) ∧
    (∀ due, (s.bus b).state = .service → (s.bus b).exchange = .none → (s.bus b).scheduled = some due → due ≤ s.now →
      noneFrom s b 0 (fun x => x.state = .present ∨ x.state = .suspect ∨ x.state = .lost) →
      exec (.sweepStart b) s = .next (started.setBus b { started.bus b with
        scheduled := some (s.now + (s.bus b).period), lastDuration := 0, ambiguous := false })) ∧
    (∀ due, (s.bus b).state = .service → (s.bus b).exchange = .none → (s.bus b).scheduled = some due → due ≤ s.now →
      noneFrom s b 0 (fun x => x.state = .present ∨ x.state = .suspect) →
      (∀ i, (started.bus b).counter % 8 = 0 → firstFrom s b 0 (fun x => x.state = .lost) i →
        exec (.sweepStart b) s = .next (started.setBus b { started.bus b with
          sent := [.identify (i.val + 1)], exchange := .poll i })) ∧
      (∀ i : Fin 62, (started.bus b).counter % 8 ≠ 0 → (∀ j, (s.loc { bus := b, idx := j }).state = .lost ↔ j = i) →
        exec (.sweepStart b) s = .next (started.setBus b { started.bus b with sent := [.look i.val], exchange := .probeLook i })) ∧
      ((started.bus b).counter % 8 ≠ 0 → 2 ≤ presenceCount s b .lost →
        let ended : State := started.setBus b { started.bus b with
          scheduled := some (s.now + (s.bus b).period), lastDuration := 0, ambiguous := true }
        exec (.sweepStart b) s = .next
          (if (s.bus b).ambiguous = true then ended else ended.queueNotice (.bus b .refillAmbiguous none)))) ∧
    ((s.bus b).state ≠ .service ∨ (s.bus b).exchange ≠ .none ∨ (s.bus b).scheduled = none ∨
      (∃ due, (s.bus b).scheduled = some due ∧ s.now < due) → exec (.sweepStart b) s = .next s)

/-- R118: a good answer of any kind counts for the sweep and clears a set silent flag with the notice SPEAKING. -/
def Sys2Proof.Claims.spoken (s : State) (b : Fin 4) : State :=
  let u := s.setBus b { s.bus b with sweepGood := true, silent := false }
  if (s.bus b).silent = true then u.queueNotice (.bus b .speaking none) else u

/-- What follows the exchange of a visit at index `i`: on an ENROLLING bus the walk starts (R91, R122), else the sweep goes
on with the next location (R115). -/
def Sys2Proof.Claims.goOn (s : State) (b : Fin 4) (i : Fin 62) : State :=
  if (s.bus b).state = .enrolling then s.startRelease b else s.visitPart b (i.val + 1) fun u => u.endSweep b

/-- R111, R116, R118, R123: a good KEYS answer ends the visit: the miss count is 0 and a SUSPECT location PRESENT; an event whose
bit differs from the acknowledge bit is accepted and resolved, and a repeat is discarded. Bytes that are no good answer to
the visit in progress, a wrong stop bit among them, change nothing. That SPEAKING joins ahead of the notices of the press is the
model's reading (assumption 11). -/
def Obligations.KeysAnswerEndsTheVisit : Prop :=
  ∀ (s : State) (b : Fin 4) (i : Fin 62) (second : Bool) (frame : List PairByte), (s.bus b).exchange = .visit i second →
    let l : Loc := { bus := b, idx := i }
    let u : State := (spoken s b).setLoc l { s.loc l with
      miss := 0, state := if (s.loc l).state = .suspect then .present else (s.loc l).state }
    (∀ flags : Byte, flags.getLsbD 0 = false → ∀ k t c a,
      frame = cleanBytes (withCrc [0x91#8, BitVec.ofNat 8 (i.val + 1), flags, k, t, c, a]) →
      exec (.keysAnswer b frame) s = .next (goOn u b i)) ∧
    (∀ flags : Byte, flags.getLsbD 0 = true → ∀ k t c a,
      frame = cleanBytes (withCrc [0x91#8, BitVec.ofNat 8 (i.val + 1), flags, k, t, c, a]) →
      exec (.keysAnswer b frame) s = .next (goOn
        (if flags.getLsbD 1 = (s.loc l).ack then u
          else (u.setLoc l { u.loc l with ack := flags.getLsbD 1 }).resolvePress l
            { bit := flags.getLsbD 1, key := k.toNat, token := t.toNat, since := c.toNat, age := a.toNat }) b i)) ∧
    ((∀ f k t c a, frame ≠ cleanBytes (withCrc [0x91#8, BitVec.ofNat 8 (i.val + 1), f, k, t, c, a])) →
      exec (.keysAnswer b frame) s = .next s)

/-- R116, R117, R122: with no good answer to the first attempt the second follows at once (on an ENROLLING bus the walk starts
instead, and nothing is counted). With none to the second, the visit has failed: the miss count rises by 1, and the
location is SUSPECT, or LOST at 3 with a LOCATION notice that carries its recorded kind and serial. The model's reading: a second
attempt that fails while a walk waits has failed the visit (assumption 20), and with no visit in progress nothing happens
(assumption 3). -/
def Obligations.UnansweredVisitIsRetriedThenFails : Prop :=
  ∀ (s : State) (b : Fin 4) (i : Fin 62),
    let l : Loc := { bus := b, idx := i }
    ((s.bus b).exchange = .visit i false →
      exec (.keysWindowExpiry b) s = .next (if (s.bus b).state = .enrolling then s.startRelease b else s.attempt l true)) ∧
    ((s.bus b).exchange = .visit i true → (s.loc l).miss < 2 →
      exec (.keysWindowExpiry b) s = .next
        (goOn (s.setLoc l { s.loc l with miss := (s.loc l).miss + 1, state := .suspect }) b i)) ∧
    ((s.bus b).exchange = .visit i true → (s.loc l).miss = 2 →
      exec (.keysWindowExpiry b) s = .next (goOn
        ((s.setLoc l { s.loc l with miss := 3, state := .lost }).queueNotice
          (.location l .lost .lost (s.loc l).kind (s.loc l).serial)) b i)) ∧
    ((∀ j k, (s.bus b).exchange ≠ .visit j k) → exec (.keysWindowExpiry b) s = .next s)

/-- R119: a good IDENTIFY reply is classified at the polled location with its acknowledge bit kept, and the poll goes on with the
next LOST location; without one the location stays as it is. R120 and R122: the refill probe. A good HERE with the lost address
sets the acknowledge bit and brings TAKE; a good TAKEN is classified; TAKE is sent once more; the probe, and the sweep, end in
every other case. Bytes that are no good answer change nothing. That SPEAKING joins ahead of the LOCATION notice of the same
answer is the model's reading (assumption 11). -/
def Obligations.PollAndProbeFindReplacements : Prop :=
  (∀ (s : State) (b : Fin 4) (i : Fin 62), (s.bus b).exchange = .poll i →
     let after : State → State := fun u =>
       if (u.bus b).state = .enrolling then u.startRelease b else u.pollPart b (i.val + 1) fun v => v.endSweep b
     (∀ code s0 s1 s2 s3 : Byte,
       exec (.identifyReply b (cleanBytes (withCrc [0x92#8, BitVec.ofNat 8 (i.val + 1), code, s0, s1, s2, s3]))) s =
         .next (after ((spoken s b).classifyAt { bus := b, idx := i } { code := code.toNat, serial := s3 ++ s2 ++ s1 ++ s0 }
           false))) ∧
     (∀ frame, (∀ c s0 s1 s2 s3, frame ≠ cleanBytes (withCrc [0x92#8, BitVec.ofNat 8 (i.val + 1), c, s0, s1, s2, s3])) →
       exec (.identifyReply b frame) s = .next s) ∧
     exec (.identifyWindowExpiry b) s = .next (after s)) ∧
  (∀ (s : State) (b : Fin 4) (i : Fin 62),
     let l : Loc := { bus := b, idx := i }
     let finish : State → State := fun u => if (u.bus b).state = .enrolling then u.startRelease b else u.endSweep b
     let take : Bool → State → State := fun k u =>
       if (u.bus b).state = .enrolling then u.startRelease b
       else u.setBus b { u.bus b with sent := [.take (i.val + 1)], exchange := .probeTake i k }
     ((s.bus b).exchange = .probeLook i →
       exec (.hereAnswer b (cleanBytes (withCrc [0xA2#8, BitVec.ofNat 8 (i.val + 1)]))) s =
         .next (take false ((spoken s b).setLoc l { s.loc l with ack := true })) ∧
       (∀ frame, frame ≠ cleanBytes (withCrc [0xA2#8, BitVec.ofNat 8 (i.val + 1)]) → exec (.hereAnswer b frame) s = .next s) ∧
       exec (.hereWindowExpiry b) s = .next (finish s)) ∧
     (∀ k, (s.bus b).exchange = .probeTake i k →
       (∀ code s0 s1 s2 s3 : Byte,
         exec (.takenAnswer b (cleanBytes (withCrc [0xA1#8, BitVec.ofNat 8 (i.val + 1), code, s0, s1, s2, s3]))) s =
           .next (finish ((spoken s b).classifyAt l { code := code.toNat, serial := s3 ++ s2 ++ s1 ++ s0 } true))) ∧
       (∀ frame, (∀ c s0 s1 s2 s3, frame ≠ cleanBytes (withCrc [0xA1#8, BitVec.ofNat 8 (i.val + 1), c, s0, s1, s2, s3])) →
         exec (.takenAnswer b frame) s = .next s) ∧
       exec (.takenWindowExpiry b) s = .next (if k = true then finish s else take true s)))

/-- R114, R118, R121: at the end of a sweep the duration is recorded (saturating at 65535), the next start is the start plus the
period, a sweep with visits and no good answer sets a clear silent flag with SILENT, and two or more LOST locations set a
clear ambiguity flag with REFILL_AMBIGUOUS. The order of the two notices is left free (assumption 8); the duration is a difference
of whole milliseconds (assumption 16). R114: a next sweep whose scheduled start has come starts at once at that end, and is the one
that SWEEP_START begins there; that it does so in the same step is the model's reading (assumption 17). -/
def Obligations.SweepEndExaminesTheFlags : Prop :=
  ∀ (s : State) (b : Fin 4),
    let c := s.bus b
    (s.now < c.sweepStart + c.period → s.endSweep b = s.closeSweep b) ∧
    (c.sweepStart + c.period ≤ s.now → s.endSweep b = (s.closeSweep b).beginSweep b ∧
      (c.state = .service → exec (.sweepStart b) (s.closeSweep b) = .next (s.endSweep b))) ∧
    let silent := c.sweepVisited = true ∧ c.sweepGood = false
    let many := 2 ≤ presenceCount s b .lost
    ∃ u ns, s.closeSweep b = u.queueNotices ns ∧
      u = s.setBus b { c with
        exchange := .none, lastDuration := min 65535 (s.now - c.sweepStart), scheduled := some (c.sweepStart + c.period),
        silent := c.silent || decide silent, ambiguous := decide many } ∧
      (Notice.bus b .silent none ∈ ns ↔ silent ∧ c.silent = false) ∧
      (Notice.bus b .refillAmbiguous none ∈ ns ↔ many ∧ c.ambiguous = false) ∧
      ns.Nodup ∧ ∀ n ∈ ns, n = .bus b .silent none ∨ n = .bus b .refillAmbiguous none

/-! ### Walks -/

/-- Completion of a walk whose address phase classified `k` addresses, up to the first sweep (R98): the addresses not reached
become ABSENT in ascending order, ENROL_DONE follows, the bus is in SERVICE with its counter 0 and ambiguity flag clear
(R108). -/
def Sys2Proof.Claims.completed (s : State) (b : Fin 4) (k : Nat) : State :=
  let marked : State := (List.finRange 62).foldl (fun u i =>
    let l : Loc := { bus := b, idx := i }
    if i.val < k ∨ (u.loc l).state = .absent then u
    else (u.setLoc l { u.loc l with state := .absent, miss := 0, rot := { (u.loc l).rot with direct := none } }).queueNotice
      (.location l .absent .absent (u.loc l).kind (u.loc l).serial)) s
  let told := marked.queueNotice (.bus b .enrolDone (some k))
  told.setBus b { told.bus b with state := .service, exchange := .none, counter := 0, ambiguous := false }

/-- R92, R93, R97: after the 50 ms of ENR low the address phase begins with TAKE(1); a good TAKEN is classified and the next
address offered, and after address 62 LOOK(62) is sent; an address without a good answer is offered once more. R93, R97, R98,
R108: the walk completes when an address brings no good answer twice, or after the end probe, which queues CHAIN_TOO_LONG for a
good HERE; the first sweep starts at once. The model's reading: the HERE of the end probe carries address 63 (assumption 31),
SPEAKING joins ahead of the other notices of the same answer (assumption 11), and the first sweep starts in the step that completes
the walk (assumption 17). -/
def Obligations.WalkHandsOutAddressesAndCompletes : Prop :=
  (∀ (s : State) (b : Fin 4),
     (∀ due, (s.bus b).enrLowEnd = some due →
       exec (.enrLowEnd b) s = .next (if due ≤ s.now
         then s.setBus b { s.bus b with enrLowEnd := none, sent := [.take 1], exchange := .walkTake 0 false } else s)) ∧
     (∀ (i : Fin 62) (k : Bool), (s.bus b).exchange = .walkTake i k →
       (∀ code s0 s1 s2 s3 : Byte, ∃ u,
         u = (spoken s b).classifyAt { bus := b, idx := i } { code := code.toNat, serial := s3 ++ s2 ++ s1 ++ s0 } true ∧
         exec (.takenAnswer b (cleanBytes (withCrc [0xA1#8, BitVec.ofNat 8 (i.val + 1), code, s0, s1, s2, s3]))) s =
           .next (u.setBus b (if h : i.val + 1 < 62
             then { u.bus b with sent := [.take (i.val + 2)], exchange := .walkTake ⟨i.val + 1, h⟩ false }
             else { u.bus b with sent := [.look 62], exchange := .walkLook }))) ∧
       (∀ frame, (∀ c s0 s1 s2 s3, frame ≠ cleanBytes (withCrc [0xA1#8, BitVec.ofNat 8 (i.val + 1), c, s0, s1, s2, s3])) →
         exec (.takenAnswer b frame) s = .next s) ∧
       (k = false → exec (.takenWindowExpiry b) s =
         .next (s.setBus b { s.bus b with sent := [.take (i.val + 1)], exchange := .walkTake i true })))) ∧
  (∀ (s : State) (b : Fin 4),
     (∀ i, (s.bus b).exchange = .walkTake i true →
       exec (.takenWindowExpiry b) s = .next ((completed s b i.val).beginSweep b)) ∧
     ((s.bus b).exchange = .walkLook →
       exec (.hereWindowExpiry b) s = .next ((completed s b 62).beginSweep b) ∧
       exec (.hereAnswer b (cleanBytes (withCrc [0xA2#8, 63#8]))) s =
         .next ((completed ((spoken s b).queueNotice (.bus b .chainTooLong none)) b 62).beginSweep b) ∧
       (∀ frame, frame ≠ cleanBytes (withCrc [0xA2#8, 63#8]) → exec (.hereAnswer b frame) s = .next s)))

/-- R94, R95, R96: an answer's kind and serial are compared with the record in the five cases of the table. Every classification
sets the miss count to 0 and the fresh-token mark; a TAKEN sets the acknowledge bit to 1; the direct pattern survives
RETURNED only; a notice is queued when the state or the serial has changed. -/
def Obligations.ClassificationFollowsTheTable : Prop :=
  ∀ (s : State) (l : Loc) (id : Identity) (taken : Bool),
    let x := s.loc l
    let known := ModuleKind.ofCode id.code
    let row : Presence × Cause × Option ModuleKind × Option (BitVec 32) :=
      if known = none then (.mismatch, .mismatch, x.kind, x.serial)
      else if x.kind = none then (.present, .new, known, some id.serial)
      else if x.kind ≠ known then (.mismatch, .mismatch, known, some id.serial)
      else if x.serial = some id.serial then (.present, .returned, x.kind, x.serial)
      else (.present, .replaced, x.kind, some id.serial)
    let u := s.setLoc l { x with
      state := row.1, kind := row.2.2.1, serial := row.2.2.2, miss := 0, ack := x.ack || taken,
      rot := { x.rot with fresh := true, direct := if row.2.1 = .returned then x.rot.direct else none } }
    s.classifyAt l id taken =
      if row.1 ≠ x.state ∨ row.2.2.2 ≠ x.serial then
        u.queueNotice (.location l row.1 row.2.1 known (some id.serial))
      else u

/-- R91, R92, R109, R110, R128, R132, R133, R136, R147: the events at the end of a timer. At the end of the 200 ms wait the release phase
begins; at the end of RESETTING the feed also closes; a due sample starts; at the phase expiry the phase bit flips and the
expiry advances by 500 ms. Before their instant they do nothing (assumption 2). That no next sample is held while a sample runs is the model's choice
(assumption 34). -/
def Obligations.TimersEndInTheirEvents : Prop :=
  ∀ (s : State) (b : Fin 4),
    let walk : State → State := fun u => u.setBus b { u.bus b with
      state := .enrolling, exchange := .none, sent := [.release, .release], waitEnd := none, resettingEnd := none,
      enrLowEnd := some (s.now + 50) }
    (∀ due, (s.bus b).waitEnd = some due → exec (.enrolWaitEnd b) s = .next (if due ≤ s.now then walk s else s)) ∧
    (∀ due, (s.bus b).resettingEnd = some due → exec (.resettingEnd b) s = .next (if due ≤ s.now
      then walk (s.setFeed b { s.feed b with switchClosed := true }) else s)) ∧
    (∀ due, (s.feed b).busy = false → (s.feed b).next = some due → exec (.sampleStart b) s = .next (if due ≤ s.now
      then s.setFeed b { s.feed b with busy := true, next := none, runStart := some s.now } else s)) ∧
    (∀ due, (s.governor b).phaseExpiry = some due → exec (.phaseFlip b) s = .next (if due ≤ s.now
      then (s.setBus b { s.bus b with phase := !(s.bus b).phase }).setGovernor b
        { s.governor b with phaseExpiry := some (due + 500) } else s))

/-! ### The supply -/

/-- The next sample as reckoned at a completion (R133). -/
def Sys2Proof.Claims.sampleAfterCompletion (state : BusState) (mode : SamplingMode) (escalated : Bool) (start now : Nat) :
    Option Nat :=
  match state with
  | .off => none
  | .unpowered => some now
  | .brownout => some now
  | _ => match mode, escalated with
    | .off, _ => none
    | .continuous, _ => some now
    | .periodic, true => some now
    | .periodic, false => some (start + 2000)

/-- R109, R132 to R139: the processing of a completed sample. BAND comes first; the level, the zero-run count and the
escalation flag follow; then a fourth consecutive level-0 sample on a powered bus declares a brownout, and level 2 or
more on a bus that waits for its supply closes the feed; the next sample is reckoned last. Before 8 ms have passed the
command does nothing (assumption 2). The supply is one figure in millivolts (assumption 15), and the scheduled start is absent outside
SERVICE (assumption 24). -/
def Obligations.SampleIsProcessedInOrder : Prop :=
  ∀ (s : State) (b : Fin 4) (supply start : Nat), (s.feed b).runStart = some start →
    let level := levelOf supply
    let c := s.bus b
    let f := s.feed b
    let powered : Prop := c.state = .enrolling ∨ c.state = .service
    let waiting : Prop := c.state = .unpowered ∨ c.state = .brownout
    let run := if level = 0 then (if powered then min 4 (f.zeroRun + 1) else f.zeroRun) else 0
    let escalated := if level = 0 then f.escalated || decide (f.mode = .periodic) else f.escalated && decide (level < 2)
    let sampled : Feed := { f with busy := false, lastStart := some start, runStart := none, level := level, zeroRun := run,
                                   escalated := escalated }
    let told : State := if bandOf level ≠ bandOf f.level
      then (s.setFeed b sampled).queueNotice (.supply b .band level none) else s.setFeed b sampled
    (s.now < start + 8 → exec (.sampleComplete b supply) s = .next s) ∧
    (start + 8 ≤ s.now → ¬ (powered ∧ level = 0 ∧ run = 4) → ¬ (waiting ∧ 2 ≤ level) →
      exec (.sampleComplete b supply) s = .next (told.setFeed b { sampled with
        next := sampleAfterCompletion c.state f.mode escalated start s.now })) ∧
    (start + 8 ≤ s.now → powered ∧ level = 0 ∧ run = 4 → ∃ t lost,
      exec (.sampleComplete b supply) s = .next t ∧
      lost = presenceCount s b .present + presenceCount s b .suspect + presenceCount s b .mismatch ∧
      t = ((((({ told with locs := t.locs } : State).setFeed b { sampled with
          switchClosed := false, brownout := true, zeroRun := 0, next := some s.now }).setBus b { c with
          state := .brownout, exchange := .none, scheduled := none, waitEnd := none, enrLowEnd := none }).setGovernor b
          { s.governor b with phaseExpiry := none }).queueNotice (.supply b .brownout 0 (some lost))) ∧
      ∀ l, t.loc l = if l.bus = b ∧ ((s.loc l).state = .present ∨ (s.loc l).state = .suspect ∨ (s.loc l).state = .mismatch)
        then { s.loc l with state := .lost, miss := 3 } else s.loc l) ∧
    (start + 8 ≤ s.now → waiting → 2 ≤ level →
      let closed : State := ((told.setFeed b { sampled with
        switchClosed := true, brownout := f.brownout && decide (c.state ≠ .brownout),
        next := sampleAfterCompletion .enrolling f.mode escalated start s.now }).setBus b { c with
        state := .enrolling, waitEnd := some (s.now + 200) })
      exec (.sampleComplete b supply) s = .next
        (if c.state = .brownout then closed.queueNotice (.supply b .recovered level none) else closed))

/-- R131: the level of a completed sample is the highest step that the supply reaches, whatever the feed switch does; the five
bands and the derating follow the table. -/
def Obligations.LevelsAndBandsFollowTheSupply : Prop :=
  (∀ (s : State) (b : Fin 4) (supply start : Nat), (s.feed b).runStart = some start → start + 8 ≤ s.now →
    ∃ t, exec (.sampleComplete b supply) s = .next t ∧ (t.feed b).level = levelOf supply) ∧
  (∀ supply : Nat, (supply < 15750 → levelOf supply = 0) ∧ levelOf supply ≤ 15 ∧
    ∀ k, 1 ≤ k → k ≤ 15 → (k ≤ levelOf supply ↔ 15750 + 750 * (k - 1) ≤ supply)) ∧
  levelOf 24000 = 12 ∧
  (∀ supply : Nat,
    (24000 ≤ supply ↔ bandOf (levelOf supply) = 4) ∧
    (21000 ≤ supply ∧ supply < 24000 ↔ bandOf (levelOf supply) = 3) ∧
    (18000 ≤ supply ∧ supply < 21000 ↔ bandOf (levelOf supply) = 2) ∧
    (15750 ≤ supply ∧ supply < 18000 ↔ bandOf (levelOf supply) = 1) ∧
    (supply < 15750 ↔ bandOf (levelOf supply) = 0)) ∧
  (∀ level : Nat,
    bandOf level = (if 12 ≤ level then 4 else if 8 ≤ level then 3 else if 4 ≤ level then 2 else if 1 ≤ level then 1 else 0) ∧
    deratingOf level = (if 12 ≤ level then 4 else if 8 ≤ level then 3 else if 4 ≤ level then 2 else 1)) ∧
  (∀ supply : Nat, (2 ≤ levelOf supply ↔ 16500 ≤ supply) ∧ (levelOf supply = 15 ↔ 26250 ≤ supply))

/-- The current that a location's module draws beside its lamp, in mA (R143). -/
def Sys2Proof.Claims.baseCurrent (s : State) (l : Loc) : Nat :=
  match (s.loc l).kind with
  | none => 0
  | some .button => 6
  | some .display =>
    let c := (s.choose l).face.chars
    if c.left = .blank ∧ c.mid = .blank ∧ c.right = .blank then 9 else 23

/-- The current that a location's lamp would draw at full brightness, in mA (R143). -/
def Sys2Proof.Claims.lampDemand (s : State) (l : Loc) : Nat :=
  match (s.choose l).face.colour with
  | none => 0
  | some .red => 20
  | some .green => 20
  | some .blue => 20
  | some .yellow => 40
  | some .cyan => 40
  | some .magenta => 40
  | some .white => 60

/-- The sum of a current over the PRESENT and SUSPECT locations of a bus whose node address has a property (R143). -/
def Sys2Proof.Claims.currentOver (s : State) (b : Fin 4) (node : Nat → Bool) (f : State → Loc → Nat) : Nat :=
  ((List.finRange 62).map fun i =>
    let l : Loc := { bus := b, idx := i }
    if ((s.loc l).state = .present ∨ (s.loc l).state = .suspect) ∧ node l.node = true then f s l else 0).sum

/-- R144 and R145, on the currents of R143: the headroom is the derated capacity less the base current; the mode is STEADY where 4
sixteenths or more of the whole demand fit, else ALTERNATE on the larger half, at scale 4 with the overload flag where even
that half does not fit. The lit lamps then draw no more than the headroom, unless in overload. The flag's changes are told,
and the phase expiry follows the mode (R147). -/
def Obligations.GovernorFixesModeAndScale : Prop :=
  ∀ (s : State) (b : Fin 4),
    let g := s.governor b
    let level := (s.feed b).level
    let f := if 12 ≤ level then 4 else if 8 ≤ level then 3 else if 4 ≤ level then 2 else 1
    let headroom := g.capacity * f / 4 - currentOver s b (fun _ => true) baseCurrent
    let even := currentOver s b (fun n => n % 2 == 0) lampDemand
    let odd := currentOver s b (fun n => n % 2 == 1) lampDemand
    let whole := min 16 (16 * headroom / (even + odd))
    let half := min 16 (16 * headroom / max even odd)
    let excess : Bool := decide (0 < even + odd ∧ whole < 4 ∧ half < 4)
    let mode : GovernorMode := if 0 < even + odd ∧ whole < 4 then .alternate else .steady
    let scale := if even + odd = 0 then 16 else if 4 ≤ whole then whole else if 4 ≤ half then half else 4
    let expiry := if mode = .alternate then some (g.phaseExpiry.getD (s.now + 500)) else none
    let u := s.setGovernor b { g with mode := mode, scale := scale, overload := excess, phaseExpiry := expiry }
    s.governSweep b =
      (if excess = true ∧ g.overload = false then u.queueNotice (.supply b .overload level none)
      else if excess = false ∧ g.overload = true then u.queueNotice (.supply b .overloadEnd level none)
      else u) ∧
    (mode = .steady → (even + odd) * scale ≤ 16 * headroom ∨ even + odd = 0) ∧
    (mode = .alternate → 0 < max even odd ∧ (excess = false → even * scale ≤ 16 * headroom ∧ odd * scale ≤ 16 * headroom)) ∧
    4 ≤ scale ∧ scale ≤ 16 ∧
    (s.notices.classes.supply = 0 → (s.governSweep b).notices = s.notices)

/-! ### Presses -/

/-- R67 to R71: the steps that end a resolution before a target task is chosen, in their order. -/
def Obligations.PressWithoutTargetIsDeclinedOrAbsorbed : Prop :=
  ∀ (s : State) (l : Loc) (e : KeyEvent),
    let tell : Key → PressOutcome → Option (Fin 8) → State := fun k o slot => s.queueNotice (.press l k o none slot)
    ((e.key = 0 ∨ 3 < e.key) → s.resolvePress l e = s) ∧
    ∀ k : Key, e.key = k.code →
      (s.ms0 = false ∨ s.ms1 = false → s.resolvePress l e = s) ∧
      (s.ms0 = true → s.ms1 = true →
        ((s.loc l).rot.direct.isSome = true → s.resolvePress l e = tell k .direct none) ∧
        ((s.loc l).rot.direct = none →
          (7 < e.token ∨ e.age = 255 → s.resolvePress l e = tell k .stale none) ∧
          ∀ token : Fin 8, e.token = token.val → e.age ≠ 255 →
            ((s.loc l).rot.map[token.val] = none → s.resolvePress l e = tell k .stale none) ∧
            ∀ entry, (s.loc l).rot.map[token.val] = some entry →
              (s.now - 4 * e.age < entry.issued → s.resolvePress l e = tell k .stale none) ∧
              (entry.issued ≤ s.now - 4 * e.age →
                (entry.meaning = .idle →
                  (∀ i, (∀ j, (s.session j).state = .active ∧ (s.session j).covers l = true ↔ j = i) →
                    s.resolvePress l e = tell k .stray (some i)) ∧
                  ((∀ i, ¬ ∀ j, (s.session j).state = .active ∧ (s.session j).covers l = true ↔ j = i) →
                    s.resolvePress l e = tell k .stray none)) ∧
                (∀ x, entry.meaning = .linger x → s.resolvePress l e = s) ∧
                (entry.meaning = .blanked → s.resolvePress l e = s) ∧
                (entry.meaning = .direct → s.resolvePress l e = tell k .direct none))))

/-- The hold that MINUS and PLUS set or renew (R50, R77). -/
def Sys2Proof.Claims.adjusted (s : State) (l : Loc) (t : Task) (offered : Nat) : State :=
  ({ s with tasks := (s.tasks.map fun (x : Task) => if x.id = t.id then { x with offered := offered } else x) }).setLoc l
    { s.loc l with rot := { (s.loc l).rot with hold := some { task := t.id, expiry := s.now + s.timing.hold } } }

/-- R73 to R78: what a press does to the target that the entry `x` names. -/
def Sys2Proof.Claims.pressed (s : State) (l : Loc) (k : Key) (press : Nat) (x : Shown) : State :=
  let late := s.queueNotice (.press l k .late (some x.task) (some x.slot))
  match s.findTask x.task with
  | none => late
  | some t =>
    if t.loc ≠ l ∨ t.slot ≠ x.slot then late
    else match t.state with
      | .waiting => late
      | .closed => if k = .confirm ∧ t.outcome = some .done then s else late
      | .opened =>
        if ∃ a, t.amended = some a ∧ press < a then s.queueNotice (.press l k .superseded (some x.task) (some x.slot))
        else if (s.session x.slot).state = .suspended then
          if k ≠ .confirm then s
          else if 4 ≤ (s.session x.slot).pending.length then late
          else (s.setSession x.slot { s.session x.slot with
            pending := (s.session x.slot).pending ++ [{ task := x.task, offered := t.offered, press := press }] }).queueNotice
              (.session x.slot x.task)
        else match k with
          | .confirm => s.applyConfirm t t.offered
          | .minus => if (s.loc l).kind = some .button then s else adjusted s l t (t.offered - 1)
          | .plus => if (s.loc l).kind = some .button then s else adjusted s l t (min (t.offered + 1) t.remaining)

/-- R72 to R78: a press on a TASK entry goes to the task of the entry before the reported token when the four conditions of the
guard hold, and to the task of the reported token when one of them fails; then the target checks decide. Where the two entries
have one issue instant the order is left free (assumption 9). R20 gives the premise that an id is in at most one record. -/
def Obligations.PressOnTaskFollowsGuardAndTargetChecks : Prop :=
  ∀ (s : State) (l : Loc) (e : KeyEvent) (k : Key) (token : Fin 8) (entry : TokenEntry) (x : Shown),
    (s.tasks.map Task.id).Nodup → e.key = k.code → s.ms0 = true → s.ms1 = true → (s.loc l).rot.direct = none →
    e.token = token.val → e.age ≠ 255 → (s.loc l).rot.map[token.val] = some entry → entry.meaning = .task x →
    entry.issued ≤ s.now - 4 * e.age →
    let before := (s.loc l).rot.map[(token - 1).val]
    let takesBack : Shown → Prop := fun y => ∃ u t, before = some u ∧ u.meaning = .task y ∧ u.issued < entry.issued ∧
      s.findTask y.task = some t ∧ t.state = .opened ∧ t.loc = l ∧ t.slot = y.slot
    (∀ y, 4 * e.since < s.timing.guard → takesBack y → s.resolvePress l e = pressed s l k (s.now - 4 * e.age) y) ∧
    ((s.timing.guard ≤ 4 * e.since ∨ ((∀ y, ¬ takesBack y) ∧ ∀ u, before = some u → u.issued ≠ entry.issued)) →
      s.resolvePress l e = pressed s l k (s.now - 4 * e.age) x)

/-- R30, R31, R49, R79, R80: the CONFIRM rule on an OPEN task with an offered quantity not above its remaining one. The full, the
short and the zero case close the task; a KEEP partial leaves it OPEN. -/
def Obligations.ConfirmRuleHasFourCases : Prop :=
  ∀ (s : State) (t : Task) (offered : Nat), t.picked < t.requested → offered ≤ t.requested - t.picked → t.succ ≠ some t.id →
    let closes : TaskOutcome → Nat → State := fun o picked =>
      (({ s with
        tasks := (s.tasks.map fun (x : Task) =>
          if x.id = t.id then { x with picked := picked, state := .closed, outcome := some o, offered := 0, succ := none,
                                       closure := some s.closures }
          else if t.succ = some x.id then { x with state := .opened, pred := none } else x),
        closures := s.closures + 1 }).setLoc t.loc { s.loc t.loc with
          tasks := (s.loc t.loc).tasks.filter fun i => decide (i ≠ t.id),
          rot := { (s.loc t.loc).rot with
            hold := (s.loc t.loc).rot.hold.filter fun h => decide (h.task ≠ t.id),
            linger := if s.timing.linger = 0 then (s.loc t.loc).rot.linger
              else some { task := t.id, slot := t.slot, expiry := s.now + s.timing.linger } } }).queueNotice
        (.taskClosed t.id t.slot t.loc o t.requested picked) (some s.closures)
    (offered = t.requested - t.picked → s.applyConfirm t offered = closes .done (t.picked + offered)) ∧
    (0 < offered → offered < t.requested - t.picked → t.shortMode = .close →
      s.applyConfirm t offered = closes .short (t.picked + offered)) ∧
    (offered = 0 → s.applyConfirm t offered = closes .short t.picked) ∧
    (0 < offered → offered < t.requested - t.picked → t.shortMode = .keep →
      s.applyConfirm t offered =
        (({ s with tasks := (s.tasks.map fun (x : Task) => if x.id = t.id
            then { x with picked := t.picked + offered, offered := x.requested - (t.picked + offered) } else x) }).setLoc
          t.loc { s.loc t.loc with rot := { (s.loc t.loc).rot with
            hold := (s.loc t.loc).rot.hold.filter fun h => decide (h.task ≠ t.id) } }).queueNotice
          (.taskPartial t.id t.slot t.loc (t.picked + offered) (t.requested - (t.picked + offered))))

/-! ### The display scheduler -/

/-- `t` is its session's front task at the location, and the session is ACTIVE (R26, R51). -/
def Sys2Proof.Claims.eligible (s : State) (l : Loc) (t : Task) : Prop :=
  (s.session t.slot).state = .active ∧ t.state = .opened ∧ s.findTask t.id = some t ∧
    ∃ before after, (s.loc l).tasks = before ++ t.id :: after ∧
      ∀ id ∈ before, ∀ u, s.findTask id = some u → ¬ (u.state = .opened ∧ u.slot = t.slot)

/-- The dwell of a task of the eligible set (R55). -/
def Sys2Proof.Claims.dwell (s : State) (set : List Task) (t : Task) : Nat :=
  let w : Task → Nat := fun u => (s.session u.slot).priority.getD 0 + 1
  let raw := s.timing.cycle * w t / (set.map w).sum
  if raw < s.timing.minDwell then s.timing.minDwell else raw

/-- A quantity right-aligned with leading blanks; 0 is two blanks and 0 (R57). -/
def Sys2Proof.Claims.rightAligned (n : Nat) : Chars :=
  { left := if n < 100 then .blank else .digit ⟨n / 100 % 10, Nat.mod_lt _ (by decide)⟩,
    mid := if n < 10 then .blank else .digit ⟨n / 10 % 10, Nat.mod_lt _ (by decide)⟩,
    right := .digit ⟨n % 10, Nat.mod_lt _ (by decide)⟩ }

/-- Task content (R57): the colour of the task's session; on a DISPLAY module the offered quantity, on any other blank; STEADY when
offered equals remaining, SLOW when not. -/
def Sys2Proof.Claims.taskContent (s : State) (l : Loc) (t : Task) : Face :=
  { colour := (s.session t.slot).colour,
    chars := match (s.loc l).kind with
      | some .display => rightAligned t.offered
      | _ => { left := .blank, mid := .blank, right := .blank },
    blink := if t.offered = t.requested - t.picked then .steady else .slow }

/-- R46 to R55 and R57: the content of a planning is that of the first case whose condition holds, after an expired hold and an
expired linger have gone; a task shows in its session's colour, with its offered quantity. The model's reading: cases 1 to 3 keep
dwell, position and hold, and what has expired goes in every case (assumption 18); the current task is named by id and slot
(assumption 19). -/
def Obligations.PlanningTakesTheFirstCase : Prop :=
  ∀ (s : State) (l : Loc),
    let old := (s.loc l).rot
    let r : Rotation := { old with
      hold := (old.hold.filter fun h => decide (s.now < h.expiry)),
      linger := (old.linger.filter fun g => decide (s.now < g.expiry)) }
    let dark : Face := { colour := none, chars := { left := .blank, mid := .blank, right := .blank }, blink := .steady }
    let set := s.eligible l
    let shows : Task → Rotation → Option Nat → Bool → Choice := fun t q d a =>
      { meaning := .task { task := t.id, slot := t.slot }, face := taskContent s l t,
        rot := { q with dwell := d, position := some t.slot }, advanced := a }
    (∀ t, t ∈ set ↔ eligible s l t) ∧ set.Pairwise (fun t u => t.slot < u.slot) ∧
    (s.ms0 = false → s.choose l = { meaning := .blanked, face := dark, rot := r, advanced := false }) ∧
    (s.ms0 = true → s.ms1 = false → s.choose l = { meaning := .blanked, rot := r, advanced := false, face :=
      { colour := some .white, chars := { left := .digit 8, mid := .digit 8, right := .digit 8 }, blink := .steady } }) ∧
    (s.ms0 = true → s.ms1 = true →
      (∀ p, r.direct = some p → s.choose l = { meaning := .direct, face := p, rot := r, advanced := false }) ∧
      (r.direct = none →
        (∀ g, r.linger = some g → s.choose l =
          { meaning := .linger { task := g.task, slot := g.slot }, face := { dark with colour := (s.session g.slot).colour },
            rot := { r with position := some g.slot }, advanced := false }) ∧
        (r.linger = none →
          (∀ h t, r.hold = some h → t ∈ set → t.id = h.task → s.choose l = shows t r (some s.now) false) ∧
          ((∀ h t, r.hold = some h → t ∈ set → t.id ≠ h.task) →
            let q := { r with hold := none }
            let current : Task → Prop := fun t => t ∈ set ∧ old.meaning = some (.task { task := t.id, slot := t.slot })
            (set = [] → s.choose l = { meaning := .idle, face := dark, rot := { q with dwell := none }, advanced := false }) ∧
            (∀ t, set = [t] → s.choose l = shows t q none false) ∧
            (2 ≤ set.length →
              (∀ t d, current t → old.dwell = some d → s.now < d → s.choose l = shows t q (some d) false) ∧
              (∀ t, current t → old.dwell = none →
                s.choose l = shows t q (some (s.now + dwell s set t)) false) ∧
              ((∀ t, ¬ current t) ∨ (∃ d, old.dwell = some d ∧ d ≤ s.now) →
                ∃ t ∈ set, s.choose l = shows t q (some (s.now + dwell s set t)) true ∧
                  (∀ p, old.position = some p → (∃ u ∈ set, p < u.slot) →
                    p < t.slot ∧ ∀ u ∈ set, p < u.slot → t.slot ≤ u.slot) ∧
                  ((∀ p, old.position = some p → ∀ u ∈ set, ¬ p < u.slot) → ∀ u ∈ set, t.slot ≤ u.slot)))))))

/-- R58, R59, R60: a planning issues a token when the kind or the shown task of the content changes, when the fresh-token mark is set
(except in case 1 of R46), and at an advance; issuing fills the map entry of the new value, sets the slot start and clears the
mark. Otherwise the token, the map, the slot start and the mark stay. That the shown task is compared by id and slot together is the
model's reading (assumption 19). -/
def Obligations.TokenIsIssuedWhenTheMeaningChanges : Prop :=
  ∀ (s : State) (l : Loc),
    let old := (s.loc l).rot
    let c := s.choose l
    let new := ((s.plan l).loc l).rot
    let issues : Prop := old.meaning ≠ some c.meaning ∨ (old.fresh = true ∧ c.meaning ≠ .blanked) ∨ c.advanced = true
    new.meaning = some c.meaning ∧ new.face = c.face ∧ new.dwell = c.rot.dwell ∧ new.position = c.rot.position ∧
    new.hold = c.rot.hold ∧ new.linger = c.rot.linger ∧ new.direct = old.direct ∧
    (∀ m, m ≠ l → (s.plan l).loc m = s.loc m) ∧
    (issues → new.token.val = (old.token.val + 1) % 8 ∧ new.slotStart = some s.now ∧ new.fresh = false ∧
      ∀ k : Fin 8, new.map[k.val] = if k = new.token then some { meaning := c.meaning, issued := s.now } else old.map[k.val]) ∧
    (¬ issues → new.token = old.token ∧ new.slotStart = old.slotStart ∧ new.fresh = old.fresh ∧ new.map = old.map)

/-! ### The report queue -/

/-- R151, R152, R155, R156: a notice of a class at priority 0 is not made. With room it joins behind the entries of its own priority
and ahead of those of lower priority. Offered to a full queue, it displaces the youngest droppable entry of the lowest
droppable priority if that is below its own, and is itself dropped if not; either drop sets LOST and clears the shown mark. -/
def Obligations.NoticeJoinsOrTheLeastIsDropped : Prop :=
  ∀ (s : State) (n : Notice) (closure : Option Nat), s.notices.InOrder →
    let p := s.notices.classes.get n.cls
    let e : Entry := { notice := n, priority := p, stamp := s.now % 65536, age := s.notices.nextAge, closure := closure }
    let joins : List Entry → List Entry := fun q =>
      q.filter (fun x => decide (p ≤ x.priority)) ++ e :: q.filter (fun x => decide (x.priority < p))
    let droppable : Entry → Prop := fun x => x ∈ s.notices.entries ∧ s.notices.transmitting ≠ some x.age
    (p = 0 → s.queueNotice n closure = s) ∧
    (0 < p → s.notices.entries.length < 32 → s.queueNotice n closure = { s with
      notices := { s.notices with entries := joins s.notices.entries, nextAge := s.notices.nextAge + 1 } }) ∧
    (0 < p → s.notices.entries.length = 32 →
      (∀ v, droppable v → (∀ x, droppable x → v.priority < x.priority ∨ (v.priority = x.priority ∧ x.age ≤ v.age)) →
        v.priority < p → s.queueNotice n closure = { s with
          link := { s.link with shown := false },
          notices := { s.notices with
            entries := joins (s.notices.entries.filter fun x => decide (x ≠ v)), lost := true,
            nextAge := s.notices.nextAge + 1 } }) ∧
      ((∀ x, droppable x → p ≤ x.priority) → s.queueNotice n closure = { s with
        link := { s.link with shown := false }, notices := { s.notices with lost := true } }))

/-- R153: the candidate is the oldest entry of the highest priority above the mask level; the mask plays no part in the capacity
and in what is dropped; the candidate's existence is the NOTICE field and asserts ATTN, the link port takes it as the outbound
record when no answer waits, and a joining notice above it in priority and mask becomes the candidate at once. -/
def Obligations.CandidateIsTheOldestOfTheHighestPriority : Prop :=
  ∀ s : State, s.notices.InOrder →
    let q := s.notices
    (∀ e, q.candidate = some e ↔ e ∈ q.entries ∧ q.mask < e.priority ∧
      ∀ x ∈ q.entries, x ≠ e → q.mask < x.priority → x.priority < e.priority ∨ (x.priority = e.priority ∧ e.age < x.age)) ∧
    (q.candidate = none ↔ ∀ x ∈ q.entries, x.priority ≤ q.mask) ∧
    (q.mask = 0 → q.candidate = q.entries.head?) ∧ (q.mask = 3 → q.candidate = none) ∧
    (∀ (mask : Nat) (n : Notice) (closure : Option Nat),
      (({ s with notices := { q with mask := mask } } : State).queueNotice n closure) =
        (let u := s.queueNotice n closure
         { u with notices := { u.notices with mask := mask } })) ∧
    s.statusByte.getLsbD 2 = q.candidate.isSome ∧
    (s.held = false → q.candidate.isSome = true → s.attn = true) ∧
    (s.held = false → s.link.replies = [] → s.lcs = true → ∃ t, exec .lcsFall s = .next t ∧
      t.link.outbound = some ((q.candidate.map Outbound.notice).getD .empty)) ∧
    (∀ (n : Notice) (closure : Option Nat), q.mask < q.classes.get n.cls → q.entries.length < 32 →
      (∀ x ∈ q.entries, x.priority < q.classes.get n.cls) →
      (s.queueNotice n closure).notices.candidate.map Entry.notice = some n)

/-! ### Formats -/

/-- R180: the CRC register starts at 0; each byte is combined by exclusive-or; eight shifts follow, each with 0x07 combined in when the
bit shifted out of position 7 was 1. Every frame the part sends ends with the CRC of the bytes before it. A frame with a
wrong CRC is no answer for the part, and a module ignores it (the module is no part of the part: assumption 13). A change of any one
byte of a frame changes its CRC. -/
def Obligations.CrcFollowsTheGeneratorPolynomial : Prop :=
  let shift : Byte → Byte := fun r => if r.getLsbD 7 then (r <<< 1) ^^^ 7#8 else r <<< 1
  busCrc [] = 0#8 ∧
  (∀ (bytes : List Byte) (x : Byte), busCrc (bytes ++ [x]) = shift^[8] (busCrc bytes ^^^ x)) ∧
  (∀ f : AisleFrame, ∃ bytes, bytes ≠ [] ∧ f.bytes = bytes ++ [busCrc bytes]) ∧
  (∀ (bytes : List Byte) (crc : Byte) (frame : List PairByte), crc ≠ busCrc bytes → frame.map PairByte.data = bytes ++ [crc] →
    (∀ (b : Fin 4) (s : State),
      exec (.keysAnswer b frame) s = .next s ∧ exec (.identifyReply b frame) s = .next s ∧
      exec (.takenAnswer b frame) s = .next s ∧ exec (.hereAnswer b frame) s = .next s) ∧
    (∀ (m : LampModule) (now : Nat), m.receive frame now = (m, none))) ∧
  (∀ (before after : List Byte) (x y : Byte), x ≠ y → busCrc (before ++ x :: after) ≠ busCrc (before ++ y :: after))

/-- R168, R169, R176, R177, R178: every request command whose fields fit their types is written with its kind and a body of its fixed
length, at most 60 bytes, and read back from them as the same command; and every body that reads as a command is the one that the
command is written with. -/
def Obligations.RequestDecodeInvertsEncode : Prop :=
  (∀ (i : Instr) (kind : Nat) (body extra : List Byte), i.wf = true → encodeRequest i = some (kind, body) →
    requestLength kind = some body.length ∧ body.length ≤ 60 ∧ 0 < kind ∧ kind < 128 ∧
      readRequest kind body.length (body ++ extra) = .request i) ∧
  (∀ (kind : Nat) (body : List Byte) (i : Instr), decodeRequest kind body = some i →
    encodeRequest i = some (kind, body) ∧ i.wf = true)

/-- R111 to R113, R124, R179: part and module read each other's frames. Every frame the part sends within the ranges of R179 is read
by a module as that frame, and what a module answers, KEYS, IDENTIFY reply, TAKEN or HERE, is a good answer for the part with the
fields sent. A frame in which a stop bit is wrong is taken by neither. The module is no part of the part (assumption 13). -/
def Obligations.PartAndModuleReadEachOthersFrames : Prop :=
  (∀ f : AisleFrame,
    (match f with
      | .lamp address _ scale _ _ _ _ => address < 256 ∧ scale ≤ 16
      | .identify address => address < 256
      | .take address => address < 256
      | .look pred => pred < 256
      | .release => True) → readFrame f.bytes = some f) ∧
  (∀ (address : Nat) (now : Nat), address < 256 → readKeys address (keysBytes address none now) = some none) ∧
  (∀ (address : Nat) (e : HeldEvent) (now : Nat), address < 256 → e.token < 256 → e.since < 256 →
    readKeys address (keysBytes address (some e) now) = some (some
      { bit := e.bit, key := e.key.code, token := e.token, since := e.since, age := min 255 ((now - e.pressed) / 4) })) ∧
  (∀ (m : LampModule) (address : Nat), address < 256 →
    readTaken address (m.identityBytes 0xA1#8 address) = some { code := m.kindCode.toNat, serial := m.serial } ∧
    readIdentifyReply address (m.identityBytes 0x92#8 address) = some { code := m.kindCode.toNat, serial := m.serial }) ∧
  (∀ (m : LampModule) (pred now : Nat), pred < 255 → m.powered = true → m.address = none →
    (m.input = .asserted → ∃ answer, m.receive (cleanBytes (AisleFrame.look pred).bytes) now = (m, some answer) ∧
      (∀ address, readHere address answer = true ↔ address = pred + 1)) ∧
    (m.input ≠ .asserted → m.receive (cleanBytes (AisleFrame.look pred).bytes) now = (m, none))) ∧
  (∀ (bytes : List Byte) (frame : List PairByte),
    goodBytes (cleanBytes bytes) = some bytes ∧
    ((∃ x ∈ frame, x.stop = false) → goodBytes frame = none ∧
      (∀ (m : LampModule) (now : Nat), m.receive frame now = (m, none)) ∧
      ∀ (b : Fin 4) (s : State), exec (.keysAnswer b frame) s = .next s ∧ exec (.identifyReply b frame) s = .next s ∧
        exec (.takenAnswer b frame) s = .next s ∧ exec (.hereAnswer b frame) s = .next s))

/-- The bits of the held events alternate, and the next event's bit follows on (R124). -/
def Sys2Proof.Claims.alternate : List HeldEvent → Bool → Prop
  | [], _ => True
  | [e], next => e.bit ≠ next
  | e :: f :: es, next => e.bit ≠ f.bit ∧ alternate (f :: es) next

/-- A module agrees with the acknowledge bit that the part holds for its location (R123 to R125): the bits of its events
alternate, and a module without one gives the next event the bit that the part accepts. While a silence lasts it holds none, for the
LAMP frame that ends the silence gives the bit. Its counts fit their bytes. -/
def Sys2Proof.Claims.inStep (ack : Bool) (m : LampModule) : Prop :=
  (if m.takeBit = true then m.silent = true ∧ m.events = []
    else alternate m.events m.nextBit ∧ (m.events = [] → m.nextBit ≠ ack)) ∧
  (∀ e ∈ m.events, e.token < 8 ∧ e.since < 256) ∧ ∀ token, m.token = some token → token < 8

/-- The events that the part has not accepted: all that the module holds, but for one that carries the acknowledge bit (R123). -/
def Sys2Proof.Claims.unaccepted (ack : Bool) (m : LampModule) : List HeldEvent :=
  match m.events with
  | [] => []
  | e :: es => if e.bit = ack then es else e :: es

/-- R83, R93, R94, R116, R123 to R125: the part accepts each key event that a module records once and in order. In a visit the module
drops the event that the LAMP frame acknowledges and answers with the first that the part has not accepted; the KEYS answer
makes the part accept and resolve exactly that one, and a lost answer leaves it for the next visit. A press adds its event behind the
others, a silence discards them, and after a TAKEN the module begins anew with the part: each of these events, and no other is
spoken of here, keeps acknowledge bit and module in step. SPEAKING joins ahead of the notices of the press (assumption 11). The module
is no part of the part (assumptions 13 and 32). -/
def Obligations.KeyEventsAreAcceptedOnceInOrder : Prop :=
  (∀ (s : State) (b : Fin 4) (i : Fin 62) (second : Bool) (m : LampModule) (now : Nat) (face : Face) (scale : Nat)
      (steady phase : Bool) (token : Fin 8),
    let l : Loc := { bus := b, idx := i }
    let ack := (s.loc l).ack
    let lamp := AisleFrame.lamp (i.val + 1) face scale steady phase ack token
    let r := m.receive (cleanBytes lamp.bytes) now
    let u : State := (spoken s b).setLoc l { s.loc l with
      miss := 0, state := if (s.loc l).state = .suspect then .present else (s.loc l).state }
    (s.bus b).exchange = .visit i second → scale ≤ 16 → m.powered = true → m.address = some (i.val + 1) → inStep ack m →
    inStep ack r.1 ∧ r.1.events = unaccepted ack m ∧ unaccepted ack r.1 = unaccepted ack m ∧
    (∃ t, exec (.keysWindowExpiry b) s = .next t ∧ (t.loc l).ack = ack) ∧
    ∃ answer, r.2 = some answer ∧
      (unaccepted ack m = [] → ∃ t, exec (.keysAnswer b (cleanBytes answer)) s = .next t ∧ t = goOn u b i ∧ (t.loc l).ack = ack) ∧
      (∀ e es, unaccepted ack m = e :: es → ∃ t, exec (.keysAnswer b (cleanBytes answer)) s = .next t ∧
        t = goOn ((u.setLoc l { u.loc l with ack := e.bit }).resolvePress l
          { bit := e.bit, key := e.key.code, token := e.token, since := e.since, age := min 255 ((now - e.pressed) / 4) }) b i ∧
        (t.loc l).ack = e.bit ∧ inStep e.bit r.1 ∧ unaccepted e.bit r.1 = es)) ∧
  (∀ (ack : Bool) (m : LampModule) (key : Key) (now : Nat), inStep ack m →
    inStep ack (m.press key now) ∧ inStep ack (m.fallSilent now) ∧
    unaccepted ack (m.press key now) = unaccepted ack m ++ (m.press key now).events.drop m.events.length) ∧
  (∀ (s : State) (b : Fin 4) (i : Fin 62) (second : Bool) (m : LampModule) (now : Nat),
    let r := m.receive (cleanBytes (AisleFrame.take (i.val + 1)).bytes) now
    (s.bus b).exchange = .walkTake i second ∨ (s.bus b).exchange = .probeTake i second →
    m.powered = true → m.address = none → m.input = .asserted → m.events = [] → (m.takeBit = true → m.silent = true) →
    (∀ token, m.token = some token → token < 8) →
    inStep true r.1 ∧ r.1.address = some (i.val + 1) ∧
    ∃ answer t, r.2 = some answer ∧ exec (.takenAnswer b (cleanBytes answer)) s = .next t ∧
      (t.loc { bus := b, idx := i }).ack = true)

/-! ### What every step keeps -/

/-- R149, R152 to R154, R157, R164, R167: the reply queue holds at most four answers; the report queue at most 32 entries, in order of
priority and age; and the outbound record of a transaction stands where it was taken from, so that no notice in transmission
is dropped. -/
def Obligations.StepKeepsTheQueuesInOrder : Prop :=
  ∀ s t : State, s.link.replies.length ≤ 4 → s.notices.InOrder → s.OutboundInPlace → step s = .next t →
    t.link.replies.length ≤ 4 ∧ t.notices.InOrder ∧ t.OutboundInPlace

/-- R61, R106 to R109, R122, R130, R136, R137, R142, R145, R147: the bus states, feed switches, flags and timers agree, and every setting
stays in its range. That a scheduled start is present only in SERVICE is the model's reading (assumption 24). -/
def Obligations.StepKeepsSupplyAndBusStates : Prop :=
  ∀ s t : State, s.SupplyInv → s.RangesInv → step s = .next t → t.SupplyInv ∧ t.RangesInv

/-- R88, R89, R94, R115, R117, R138 and R59: presence states agree with miss counts and recorded kinds, a visit in progress concerns a
PRESENT or SUSPECT location, and the entry of the current token describes the content on view. -/
def Obligations.StepKeepsLocationsCoherent : Prop :=
  ∀ s t : State, s.PresenceInv → (∀ l, (s.loc l).rot.TokenNamesContent) → step s = .next t →
    t.PresenceInv ∧ ∀ l, (t.loc l).rot.TokenNamesContent

/-- R1, R5, R7, R12, R13, R20 to R22, R25, R30, R40: session records are coherent and same-coloured sessions keep apart; ids are unique,
quantities keep their relations, chains are linked on both sides and never return, lists hold exactly the WAITING and OPEN tasks
of their location, every such task is covered by its session, and every held confirmation names an OPEN task of it. -/
def Obligations.StepKeepsSessionsAndTaskStore : Prop :=
  ∀ s t : State, s.SessionInv → s.StoreInv → step s = .next t → t.SessionInv ∧ t.StoreInv

/-- The state right after reset meets every agreement that the steps keep. That its lines MS0, MS1 and LCS are high is the model's
choice (assumption 4). -/
def Obligations.ResetMeetsEveryAgreement : Prop := State.reset.Inv

/-- R106, R129, R141 and the opening of chapter 7: the blocks of one bus share nothing with those of another. An event of one bus leaves
the controller, feed monitor, governor and locations of every other bus as they were, and the settings, lines, strap, classes,
mask and time; except for a key event (R65), it leaves sessions, tasks and task lists too (R2, R9, R23, R105). -/
def Obligations.EventsOfOneBusLeaveTheOthers : Prop :=
  ∀ (c : Instr) (b : Fin 4) (s t : State), busOfCommand c = some b → exec c s = .next t →
    (∀ d, d ≠ b → t.bus d = s.bus d ∧ t.feed d = s.feed d ∧ t.governor d = s.governor d) ∧
    (∀ l : Loc, l.bus ≠ b → t.loc l = s.loc l) ∧
    t.timing = s.timing ∧ t.ms0 = s.ms0 ∧ t.ms1 = s.ms1 ∧ t.strapMs0 = s.strapMs0 ∧ t.strapMs1 = s.strapMs1 ∧
    t.notices.classes = s.notices.classes ∧ t.notices.mask = s.notices.mask ∧ t.now = s.now ∧ t.held = s.held ∧
    t.lcs = s.lcs ∧ t.link = { s.link with shown := t.link.shown } ∧
    ((∀ frame, c ≠ .keysAnswer b frame) →
      t.sessions = s.sessions ∧ t.tasks = s.tasks ∧ ∀ l, (t.loc l).tasks = (s.loc l).tasks)

/-- R44: whatever command sends a LAMP frame of a visit, the frame that it sent before sent again included, a frame that shows a task
shows one that is OPEN, its session's front task at that location and its session ACTIVE, in the session's colour and with the
location's token. A command of the pair that changes the state and leaves a visit in progress has sent that visit's frame. -/
def Obligations.LampFramesShowOnlyOpenFrontTasks : Prop :=
  ∀ (c : Instr) (s t : State) (b : Fin 4) (i : Fin 62) (second : Bool), exec c s = .next t →
    (t.bus b).exchange = .visit i second →
    ((s.bus b).exchange ≠ .visit i second ∨ (t.bus b).sent ≠ (s.bus b).sent ∨
      (busOfCommand c = some b ∧ ofPair c = true ∧ t ≠ s)) →
    let l : Loc := { bus := b, idx := i }
    ∃ scale alternate phase ack face,
      (t.bus b).sent = [.lamp (i.val + 1) face scale alternate phase ack (t.loc l).rot.token] ∧
      ∀ x, (t.loc l).rot.meaning = some (.task x) →
        face.colour = (t.session x.slot).colour ∧
        ∃ u, u.id = x.task ∧ u.slot = x.slot ∧ eligible t l u
end

