-- ==== Sys2Proof/Laws/Clock.lean ====
section
/-! SUPPORT. What the bytes clocked in on LDI are: how many, and which bits of the waveform they hold (R162). -/

namespace Sys2Proof.Machine

/-- Bit 7 of a byte is the bit shifted in first. -/
theorem byteOfBits_getLsbD (b7 b6 b5 b4 b3 b2 b1 b0 : Bool) (k : Fin 8) :
    [b7, b6, b5, b4, b3, b2, b1, b0][k.val]? = some ((byteOfBits [b7, b6, b5, b4, b3, b2, b1, b0]).getLsbD (7 - k.val)) := by
  revert b7 b6 b5 b4 b3 b2 b1 b0 k
  decide +kernel

/-- Eight bits of a byte, most significant first, are that byte. -/
theorem byteOfBits_bits (x : Byte) : byteOfBits ((List.finRange 8).map fun (i : Fin 8) => x.getMsbD i.val) = x := by
  revert x
  decide +kernel

theorem wholeBytes_length : ∀ bits : List Bool, (wholeBytes bits).length = bits.length / 8
  | b7 :: b6 :: b5 :: b4 :: b3 :: b2 :: b1 :: b0 :: rest => by
    simp only [wholeBytes, List.length_cons, wholeBytes_length rest]
    omega
  | [] | [_] | [_, _] | [_, _, _] | [_, _, _, _] | [_, _, _, _, _] | [_, _, _, _, _, _] | [_, _, _, _, _, _, _] => by simp [wholeBytes]

/-- Bit `k` of whole byte `n` is bit `8 n + k` of the bits clocked. -/
theorem wholeBytes_bit : ∀ (bits : List Bool) (n : Nat) (h : n < (wholeBytes bits).length) (k : Fin 8),
    bits[8 * n + k.val]? = some ((wholeBytes bits)[n].getLsbD (7 - k.val))
  | b7 :: b6 :: b5 :: b4 :: b3 :: b2 :: b1 :: b0 :: rest, 0, _, k => by
    rw [Nat.mul_zero, Nat.zero_add]
    simp only [wholeBytes, List.getElem_cons_zero]
    rw [← byteOfBits_getLsbD]
    exact List.getElem?_append_left (l₁ := [b7, b6, b5, b4, b3, b2, b1, b0]) (l₂ := rest) (by simp)
  | b7 :: b6 :: b5 :: b4 :: b3 :: b2 :: b1 :: b0 :: rest, n + 1, h, k => by
    simp only [wholeBytes, List.length_cons] at h
    simp only [wholeBytes, List.getElem_cons_succ]
    rw [← wholeBytes_bit rest n (by omega) k, show 8 * (n + 1) + k.val = 8 * n + k.val + 8 by omega]
    rfl
  | [], _, h, _ | [_], _, h, _ | [_, _], _, h, _ | [_, _, _], _, h, _ | [_, _, _, _], _, h, _ | [_, _, _, _, _], _, h, _
  | [_, _, _, _, _, _], _, h, _ | [_, _, _, _, _, _, _], _, h, _ => by cases h

/-- Bits that do not fill a byte leave no byte. -/
theorem wholeBytes_short {bits : List Bool} (h : bits.length < 8) : wholeBytes bits = [] := by
  rw [← List.length_eq_zero_iff, wholeBytes_length]
  omega

/-- The levels of one byte bring its bits, most significant first, and leave LCK high. -/
theorem risingBits_linkWave (lck : Bool) (x : Byte) (rest : List LinkPins) :
    risingBits lck (linkWave [x] ++ rest) = ((List.finRange 8).map fun (i : Fin 8) => x.getMsbD i.val) ++ risingBits true rest := by
  cases lck <;> simp [linkWave, List.finRange_succ, risingBits]

/-- The bytes a host sends are the bytes clocked in, whatever follows. -/
theorem ldiBytes_linkWave (bytes : List Byte) (tail : List LinkPins) :
    ldiBytes true (linkWave bytes ++ tail) = bytes ++ ldiBytes true tail := by
  induction bytes with
  | nil => rfl
  | cons x xs ih =>
    have : linkWave (x :: xs) ++ tail = linkWave [x] ++ (linkWave xs ++ tail) := by simp [linkWave]
    unfold ldiBytes at ih ⊢
    rw [this, risingBits_linkWave, List.cons_append, ← ih]
    conv_rhs => rw [← byteOfBits_bits x]
    rfl

end Sys2Proof.Machine
end

