-- ==== Sys2Proof/Laws/State.lean ====
section
/-! SUPPORT. What each update of the state leaves as it was, and what it makes of the record it writes. -/

namespace Sys2Proof.Machine.State

variable (s : State)

@[simp] theorem setSession_frame (i : Fin 8) (x : Session) :
    (s.setSession i x).pending = s.pending ∧ (s.setSession i x).held = s.held ∧ (s.setSession i x).now = s.now ∧
    (s.setSession i x).ms0 = s.ms0 ∧ (s.setSession i x).ms1 = s.ms1 ∧ (s.setSession i x).strapMs0 = s.strapMs0 ∧
    (s.setSession i x).strapMs1 = s.strapMs1 ∧ (s.setSession i x).lcs = s.lcs ∧ (s.setSession i x).link = s.link ∧
    (s.setSession i x).tasks = s.tasks ∧ (s.setSession i x).closures = s.closures ∧ (s.setSession i x).locs = s.locs
    ∧ (s.setSession i x).timing = s.timing ∧ (s.setSession i x).buses = s.buses ∧ (s.setSession i x).feeds = s.feeds
    ∧ (s.setSession i x).governors = s.governors ∧ (s.setSession i x).notices = s.notices ∧ (∀ m, (s.setSession i
    x).loc m = s.loc m) ∧ (∀ k, (s.setSession i x).bus k = s.bus k) ∧ (∀ k, (s.setSession i x).feed k = s.feed k) ∧
    (∀ k, (s.setSession i x).governor k = s.governor k) ∧ (∀ k, (s.setSession i x).findTask k = s.findTask k) := by
  and_intros <;> intros <;> rfl

@[simp] theorem setLoc_frame (l : Loc) (x : Location) :
    (s.setLoc l x).pending = s.pending ∧ (s.setLoc l x).held = s.held ∧ (s.setLoc l x).now = s.now ∧ (s.setLoc l
    x).ms0 = s.ms0 ∧ (s.setLoc l x).ms1 = s.ms1 ∧ (s.setLoc l x).strapMs0 = s.strapMs0 ∧ (s.setLoc l x).strapMs1 =
    s.strapMs1 ∧ (s.setLoc l x).lcs = s.lcs ∧ (s.setLoc l x).link = s.link ∧ (s.setLoc l x).sessions = s.sessions ∧
    (s.setLoc l x).tasks = s.tasks ∧ (s.setLoc l x).closures = s.closures ∧ (s.setLoc l x).timing = s.timing ∧
    (s.setLoc l x).buses = s.buses ∧ (s.setLoc l x).feeds = s.feeds ∧ (s.setLoc l x).governors = s.governors ∧
    (s.setLoc l x).notices = s.notices ∧ (∀ k, (s.setLoc l x).session k = s.session k) ∧ (∀ k, (s.setLoc l x).bus k
    = s.bus k) ∧ (∀ k, (s.setLoc l x).feed k = s.feed k) ∧ (∀ k, (s.setLoc l x).governor k = s.governor k) ∧ (∀ k,
    (s.setLoc l x).findTask k = s.findTask k) := by
  and_intros <;> intros <;> rfl

@[simp] theorem modLoc_frame (l : Loc) (f : Location → Location) :
    (s.modLoc l f).pending = s.pending ∧ (s.modLoc l f).held = s.held ∧ (s.modLoc l f).now = s.now ∧ (s.modLoc l
    f).ms0 = s.ms0 ∧ (s.modLoc l f).ms1 = s.ms1 ∧ (s.modLoc l f).strapMs0 = s.strapMs0 ∧ (s.modLoc l f).strapMs1 =
    s.strapMs1 ∧ (s.modLoc l f).lcs = s.lcs ∧ (s.modLoc l f).link = s.link ∧ (s.modLoc l f).sessions = s.sessions ∧
    (s.modLoc l f).tasks = s.tasks ∧ (s.modLoc l f).closures = s.closures ∧ (s.modLoc l f).timing = s.timing ∧
    (s.modLoc l f).buses = s.buses ∧ (s.modLoc l f).feeds = s.feeds ∧ (s.modLoc l f).governors = s.governors ∧
    (s.modLoc l f).notices = s.notices ∧ (∀ k, (s.modLoc l f).session k = s.session k) ∧ (∀ k, (s.modLoc l f).bus k
    = s.bus k) ∧ (∀ k, (s.modLoc l f).feed k = s.feed k) ∧ (∀ k, (s.modLoc l f).governor k = s.governor k) ∧ (∀ k,
    (s.modLoc l f).findTask k = s.findTask k) := by
  and_intros <;> intros <;> rfl

@[simp] theorem modRot_frame (l : Loc) (f : Rotation → Rotation) :
    (s.modRot l f).pending = s.pending ∧ (s.modRot l f).held = s.held ∧ (s.modRot l f).now = s.now ∧ (s.modRot l
    f).ms0 = s.ms0 ∧ (s.modRot l f).ms1 = s.ms1 ∧ (s.modRot l f).strapMs0 = s.strapMs0 ∧ (s.modRot l f).strapMs1 =
    s.strapMs1 ∧ (s.modRot l f).lcs = s.lcs ∧ (s.modRot l f).link = s.link ∧ (s.modRot l f).sessions = s.sessions ∧
    (s.modRot l f).tasks = s.tasks ∧ (s.modRot l f).closures = s.closures ∧ (s.modRot l f).timing = s.timing ∧
    (s.modRot l f).buses = s.buses ∧ (s.modRot l f).feeds = s.feeds ∧ (s.modRot l f).governors = s.governors ∧
    (s.modRot l f).notices = s.notices ∧ (∀ k, (s.modRot l f).session k = s.session k) ∧ (∀ k, (s.modRot l f).bus k
    = s.bus k) ∧ (∀ k, (s.modRot l f).feed k = s.feed k) ∧ (∀ k, (s.modRot l f).governor k = s.governor k) ∧ (∀ k,
    (s.modRot l f).findTask k = s.findTask k) := by
  and_intros <;> intros <;> rfl

@[simp] theorem mapLocs_frame (f : Location → Location) :
    (s.mapLocs f).pending = s.pending ∧ (s.mapLocs f).held = s.held ∧ (s.mapLocs f).now = s.now ∧ (s.mapLocs f).ms0
    = s.ms0 ∧ (s.mapLocs f).ms1 = s.ms1 ∧ (s.mapLocs f).strapMs0 = s.strapMs0 ∧ (s.mapLocs f).strapMs1 = s.strapMs1
    ∧ (s.mapLocs f).lcs = s.lcs ∧ (s.mapLocs f).link = s.link ∧ (s.mapLocs f).sessions = s.sessions ∧ (s.mapLocs
    f).tasks = s.tasks ∧ (s.mapLocs f).closures = s.closures ∧ (s.mapLocs f).timing = s.timing ∧ (s.mapLocs f).buses
    = s.buses ∧ (s.mapLocs f).feeds = s.feeds ∧ (s.mapLocs f).governors = s.governors ∧ (s.mapLocs f).notices =
    s.notices ∧ (∀ k, (s.mapLocs f).session k = s.session k) ∧ (∀ k, (s.mapLocs f).bus k = s.bus k) ∧ (∀ k,
    (s.mapLocs f).feed k = s.feed k) ∧ (∀ k, (s.mapLocs f).governor k = s.governor k) ∧ (∀ k, (s.mapLocs f).findTask
    k = s.findTask k) := by
  and_intros <;> intros <;> rfl

@[simp] theorem mapBusLocs_frame (b : Fin 4) (f : Location → Location) :
    (s.mapBusLocs b f).pending = s.pending ∧ (s.mapBusLocs b f).held = s.held ∧ (s.mapBusLocs b f).now = s.now ∧
    (s.mapBusLocs b f).ms0 = s.ms0 ∧ (s.mapBusLocs b f).ms1 = s.ms1 ∧ (s.mapBusLocs b f).strapMs0 = s.strapMs0 ∧
    (s.mapBusLocs b f).strapMs1 = s.strapMs1 ∧ (s.mapBusLocs b f).lcs = s.lcs ∧ (s.mapBusLocs b f).link = s.link ∧
    (s.mapBusLocs b f).sessions = s.sessions ∧ (s.mapBusLocs b f).tasks = s.tasks ∧ (s.mapBusLocs b f).closures =
    s.closures ∧ (s.mapBusLocs b f).timing = s.timing ∧ (s.mapBusLocs b f).buses = s.buses ∧ (s.mapBusLocs b
    f).feeds = s.feeds ∧ (s.mapBusLocs b f).governors = s.governors ∧ (s.mapBusLocs b f).notices = s.notices ∧ (∀ k,
    (s.mapBusLocs b f).session k = s.session k) ∧ (∀ k, (s.mapBusLocs b f).bus k = s.bus k) ∧ (∀ k, (s.mapBusLocs b
    f).feed k = s.feed k) ∧ (∀ k, (s.mapBusLocs b f).governor k = s.governor k) ∧ (∀ k, (s.mapBusLocs b f).findTask
    k = s.findTask k) := by
  and_intros <;> intros <;> rfl

@[simp] theorem setBus_frame (b : Fin 4) (x : Bus) :
    (s.setBus b x).pending = s.pending ∧ (s.setBus b x).held = s.held ∧ (s.setBus b x).now = s.now ∧ (s.setBus b
    x).ms0 = s.ms0 ∧ (s.setBus b x).ms1 = s.ms1 ∧ (s.setBus b x).strapMs0 = s.strapMs0 ∧ (s.setBus b x).strapMs1 =
    s.strapMs1 ∧ (s.setBus b x).lcs = s.lcs ∧ (s.setBus b x).link = s.link ∧ (s.setBus b x).sessions = s.sessions ∧
    (s.setBus b x).tasks = s.tasks ∧ (s.setBus b x).closures = s.closures ∧ (s.setBus b x).locs = s.locs ∧ (s.setBus
    b x).timing = s.timing ∧ (s.setBus b x).feeds = s.feeds ∧ (s.setBus b x).governors = s.governors ∧ (s.setBus b
    x).notices = s.notices ∧ (∀ k, (s.setBus b x).session k = s.session k) ∧ (∀ m, (s.setBus b x).loc m = s.loc m) ∧
    (∀ k, (s.setBus b x).feed k = s.feed k) ∧ (∀ k, (s.setBus b x).governor k = s.governor k) ∧ (∀ k, (s.setBus b
    x).findTask k = s.findTask k) := by
  and_intros <;> intros <;> rfl

@[simp] theorem modBus_frame (b : Fin 4) (f : Bus → Bus) :
    (s.modBus b f).pending = s.pending ∧ (s.modBus b f).held = s.held ∧ (s.modBus b f).now = s.now ∧ (s.modBus b
    f).ms0 = s.ms0 ∧ (s.modBus b f).ms1 = s.ms1 ∧ (s.modBus b f).strapMs0 = s.strapMs0 ∧ (s.modBus b f).strapMs1 =
    s.strapMs1 ∧ (s.modBus b f).lcs = s.lcs ∧ (s.modBus b f).link = s.link ∧ (s.modBus b f).sessions = s.sessions ∧
    (s.modBus b f).tasks = s.tasks ∧ (s.modBus b f).closures = s.closures ∧ (s.modBus b f).locs = s.locs ∧ (s.modBus
    b f).timing = s.timing ∧ (s.modBus b f).feeds = s.feeds ∧ (s.modBus b f).governors = s.governors ∧ (s.modBus b
    f).notices = s.notices ∧ (∀ k, (s.modBus b f).session k = s.session k) ∧ (∀ m, (s.modBus b f).loc m = s.loc m) ∧
    (∀ k, (s.modBus b f).feed k = s.feed k) ∧ (∀ k, (s.modBus b f).governor k = s.governor k) ∧ (∀ k, (s.modBus b
    f).findTask k = s.findTask k) := by
  and_intros <;> intros <;> rfl

@[simp] theorem setFeed_frame (b : Fin 4) (x : Feed) :
    (s.setFeed b x).pending = s.pending ∧ (s.setFeed b x).held = s.held ∧ (s.setFeed b x).now = s.now ∧ (s.setFeed b
    x).ms0 = s.ms0 ∧ (s.setFeed b x).ms1 = s.ms1 ∧ (s.setFeed b x).strapMs0 = s.strapMs0 ∧ (s.setFeed b x).strapMs1
    = s.strapMs1 ∧ (s.setFeed b x).lcs = s.lcs ∧ (s.setFeed b x).link = s.link ∧ (s.setFeed b x).sessions =
    s.sessions ∧ (s.setFeed b x).tasks = s.tasks ∧ (s.setFeed b x).closures = s.closures ∧ (s.setFeed b x).locs =
    s.locs ∧ (s.setFeed b x).timing = s.timing ∧ (s.setFeed b x).buses = s.buses ∧ (s.setFeed b x).governors =
    s.governors ∧ (s.setFeed b x).notices = s.notices ∧ (∀ k, (s.setFeed b x).session k = s.session k) ∧ (∀ m,
    (s.setFeed b x).loc m = s.loc m) ∧ (∀ k, (s.setFeed b x).bus k = s.bus k) ∧ (∀ k, (s.setFeed b x).governor k =
    s.governor k) ∧ (∀ k, (s.setFeed b x).findTask k = s.findTask k) := by
  and_intros <;> intros <;> rfl

@[simp] theorem modFeed_frame (b : Fin 4) (f : Feed → Feed) :
    (s.modFeed b f).pending = s.pending ∧ (s.modFeed b f).held = s.held ∧ (s.modFeed b f).now = s.now ∧ (s.modFeed b
    f).ms0 = s.ms0 ∧ (s.modFeed b f).ms1 = s.ms1 ∧ (s.modFeed b f).strapMs0 = s.strapMs0 ∧ (s.modFeed b f).strapMs1
    = s.strapMs1 ∧ (s.modFeed b f).lcs = s.lcs ∧ (s.modFeed b f).link = s.link ∧ (s.modFeed b f).sessions =
    s.sessions ∧ (s.modFeed b f).tasks = s.tasks ∧ (s.modFeed b f).closures = s.closures ∧ (s.modFeed b f).locs =
    s.locs ∧ (s.modFeed b f).timing = s.timing ∧ (s.modFeed b f).buses = s.buses ∧ (s.modFeed b f).governors =
    s.governors ∧ (s.modFeed b f).notices = s.notices ∧ (∀ k, (s.modFeed b f).session k = s.session k) ∧ (∀ m,
    (s.modFeed b f).loc m = s.loc m) ∧ (∀ k, (s.modFeed b f).bus k = s.bus k) ∧ (∀ k, (s.modFeed b f).governor k =
    s.governor k) ∧ (∀ k, (s.modFeed b f).findTask k = s.findTask k) := by
  and_intros <;> intros <;> rfl

@[simp] theorem setGovernor_frame (b : Fin 4) (x : Governor) :
    (s.setGovernor b x).pending = s.pending ∧ (s.setGovernor b x).held = s.held ∧ (s.setGovernor b x).now = s.now ∧
    (s.setGovernor b x).ms0 = s.ms0 ∧ (s.setGovernor b x).ms1 = s.ms1 ∧ (s.setGovernor b x).strapMs0 = s.strapMs0 ∧
    (s.setGovernor b x).strapMs1 = s.strapMs1 ∧ (s.setGovernor b x).lcs = s.lcs ∧ (s.setGovernor b x).link = s.link
    ∧ (s.setGovernor b x).sessions = s.sessions ∧ (s.setGovernor b x).tasks = s.tasks ∧ (s.setGovernor b x).closures
    = s.closures ∧ (s.setGovernor b x).locs = s.locs ∧ (s.setGovernor b x).timing = s.timing ∧ (s.setGovernor b
    x).buses = s.buses ∧ (s.setGovernor b x).feeds = s.feeds ∧ (s.setGovernor b x).notices = s.notices ∧ (∀ k,
    (s.setGovernor b x).session k = s.session k) ∧ (∀ m, (s.setGovernor b x).loc m = s.loc m) ∧ (∀ k, (s.setGovernor
    b x).bus k = s.bus k) ∧ (∀ k, (s.setGovernor b x).feed k = s.feed k) ∧ (∀ k, (s.setGovernor b x).findTask k =
    s.findTask k) := by
  and_intros <;> intros <;> rfl

@[simp] theorem modGovernor_frame (b : Fin 4) (f : Governor → Governor) :
    (s.modGovernor b f).pending = s.pending ∧ (s.modGovernor b f).held = s.held ∧ (s.modGovernor b f).now = s.now ∧
    (s.modGovernor b f).ms0 = s.ms0 ∧ (s.modGovernor b f).ms1 = s.ms1 ∧ (s.modGovernor b f).strapMs0 = s.strapMs0 ∧
    (s.modGovernor b f).strapMs1 = s.strapMs1 ∧ (s.modGovernor b f).lcs = s.lcs ∧ (s.modGovernor b f).link = s.link
    ∧ (s.modGovernor b f).sessions = s.sessions ∧ (s.modGovernor b f).tasks = s.tasks ∧ (s.modGovernor b f).closures
    = s.closures ∧ (s.modGovernor b f).locs = s.locs ∧ (s.modGovernor b f).timing = s.timing ∧ (s.modGovernor b
    f).buses = s.buses ∧ (s.modGovernor b f).feeds = s.feeds ∧ (s.modGovernor b f).notices = s.notices ∧ (∀ k,
    (s.modGovernor b f).session k = s.session k) ∧ (∀ m, (s.modGovernor b f).loc m = s.loc m) ∧ (∀ k, (s.modGovernor
    b f).bus k = s.bus k) ∧ (∀ k, (s.modGovernor b f).feed k = s.feed k) ∧ (∀ k, (s.modGovernor b f).findTask k =
    s.findTask k) := by
  and_intros <;> intros <;> rfl

@[simp] theorem updTask_frame (id : Nat) (f : Task → Task) :
    (s.updTask id f).pending = s.pending ∧ (s.updTask id f).held = s.held ∧ (s.updTask id f).now = s.now ∧
    (s.updTask id f).ms0 = s.ms0 ∧ (s.updTask id f).ms1 = s.ms1 ∧ (s.updTask id f).strapMs0 = s.strapMs0 ∧
    (s.updTask id f).strapMs1 = s.strapMs1 ∧ (s.updTask id f).lcs = s.lcs ∧ (s.updTask id f).link = s.link ∧
    (s.updTask id f).sessions = s.sessions ∧ (s.updTask id f).closures = s.closures ∧ (s.updTask id f).locs = s.locs
    ∧ (s.updTask id f).timing = s.timing ∧ (s.updTask id f).buses = s.buses ∧ (s.updTask id f).feeds = s.feeds ∧
    (s.updTask id f).governors = s.governors ∧ (s.updTask id f).notices = s.notices ∧ (∀ k, (s.updTask id f).session
    k = s.session k) ∧ (∀ m, (s.updTask id f).loc m = s.loc m) ∧ (∀ k, (s.updTask id f).bus k = s.bus k) ∧ (∀ k,
    (s.updTask id f).feed k = s.feed k) ∧ (∀ k, (s.updTask id f).governor k = s.governor k) := by
  and_intros <;> intros <;> rfl

@[simp] theorem dropTask_frame (id : Nat) :
    (s.dropTask id).pending = s.pending ∧ (s.dropTask id).held = s.held ∧ (s.dropTask id).now = s.now ∧ (s.dropTask
    id).ms0 = s.ms0 ∧ (s.dropTask id).ms1 = s.ms1 ∧ (s.dropTask id).strapMs0 = s.strapMs0 ∧ (s.dropTask id).strapMs1
    = s.strapMs1 ∧ (s.dropTask id).lcs = s.lcs ∧ (s.dropTask id).link = s.link ∧ (s.dropTask id).sessions =
    s.sessions ∧ (s.dropTask id).closures = s.closures ∧ (s.dropTask id).locs = s.locs ∧ (s.dropTask id).timing =
    s.timing ∧ (s.dropTask id).buses = s.buses ∧ (s.dropTask id).feeds = s.feeds ∧ (s.dropTask id).governors =
    s.governors ∧ (s.dropTask id).notices = s.notices ∧ (∀ k, (s.dropTask id).session k = s.session k) ∧ (∀ m,
    (s.dropTask id).loc m = s.loc m) ∧ (∀ k, (s.dropTask id).bus k = s.bus k) ∧ (∀ k, (s.dropTask id).feed k =
    s.feed k) ∧ (∀ k, (s.dropTask id).governor k = s.governor k) := by
  and_intros <;> intros <;> rfl

/-! ### The record that an update writes -/

@[simp] theorem session_setSession (i j : Fin 8) (x : Session) :
    (s.setSession i x).session j = if j = i then x else s.session j := by
  simp only [session, setSession, Vector.getElem_set, Fin.ext_iff, eq_comm (a := i.val)]

@[simp] theorem bus_setBus (b c : Fin 4) (x : Bus) : (s.setBus b x).bus c = if c = b then x else s.bus c := by
  simp only [bus, setBus, Vector.getElem_set, Fin.ext_iff, eq_comm (a := b.val)]

@[simp] theorem bus_modBus (b c : Fin 4) (f : Bus → Bus) :
    (s.modBus b f).bus c = if c = b then f (s.bus b) else s.bus c := bus_setBus s b c _

@[simp] theorem feed_setFeed (b c : Fin 4) (x : Feed) : (s.setFeed b x).feed c = if c = b then x else s.feed c := by
  simp only [feed, setFeed, Vector.getElem_set, Fin.ext_iff, eq_comm (a := b.val)]

@[simp] theorem feed_modFeed (b c : Fin 4) (f : Feed → Feed) :
    (s.modFeed b f).feed c = if c = b then f (s.feed b) else s.feed c := feed_setFeed s b c _

@[simp] theorem governor_setGovernor (b c : Fin 4) (x : Governor) :
    (s.setGovernor b x).governor c = if c = b then x else s.governor c := by
  simp only [governor, setGovernor, Vector.getElem_set, Fin.ext_iff, eq_comm (a := b.val)]

@[simp] theorem governor_modGovernor (b c : Fin 4) (f : Governor → Governor) :
    (s.modGovernor b f).governor c = if c = b then f (s.governor b) else s.governor c := governor_setGovernor s b c _

@[simp] theorem loc_setLoc (l m : Loc) (x : Location) : (s.setLoc l x).loc m = if m = l then x else s.loc m := by
  obtain ⟨lb, li⟩ := l
  obtain ⟨mb, mi⟩ := m
  simp only [loc, setLoc, Loc.mk.injEq, Fin.ext_iff]
  by_cases hb : mb.val = lb.val
  · by_cases hi : mi.val = li.val
    · simp [hb, hi]
    · simp [hb, hi, Ne.symm hi]
  · simp [hb, Ne.symm hb]

@[simp] theorem loc_modLoc (l m : Loc) (f : Location → Location) :
    (s.modLoc l f).loc m = if m = l then f (s.loc l) else s.loc m := loc_setLoc s l m _

@[simp] theorem loc_modRot (l m : Loc) (f : Rotation → Rotation) :
    (s.modRot l f).loc m = if m = l then { s.loc l with rot := f (s.loc l).rot } else s.loc m := loc_modLoc s l m _

@[simp] theorem loc_mapLocs (m : Loc) (f : Location → Location) : (s.mapLocs f).loc m = f (s.loc m) := by
  simp [loc, mapLocs]

@[simp] theorem loc_mapBusLocs (b : Fin 4) (m : Loc) (f : Location → Location) :
    (s.mapBusLocs b f).loc m = if m.bus = b then f (s.loc m) else s.loc m := by
  simp only [loc, mapBusLocs, Vector.getElem_set, Fin.ext_iff, eq_comm (a := b.val)]
  split <;> simp_all

/-! ### Records of a state written out, and vectors read at an index -/

theorem getElem_sessions (i : Fin 8) : s.sessions[i.val] = s.session i := rfl

theorem getElem_buses (b : Fin 4) : s.buses[b.val] = s.bus b := rfl

theorem getElem_feeds (b : Fin 4) : s.feeds[b.val] = s.feed b := rfl

theorem getElem_governors (b : Fin 4) : s.governors[b.val] = s.governor b := rfl

theorem getElem_locs (l : Loc) : (s.locs[l.bus.val])[l.idx.val] = s.loc l := rfl

section Written

variable (pending : List Instr) (held : Bool) (now : Instant) (ms0 ms1 strapMs0 strapMs1 lcs : Bool) (link : Link)
  (sessions : Vector Session 8) (tasks : List Task) (closures : Nat) (locs : Vector (Vector Location 62) 4)
  (timing : Timing) (buses : Vector Bus 4) (feeds : Vector Feed 4) (governors : Vector Governor 4)
  (notices : NoticeQueue)

theorem session_mk (i : Fin 8) :
    (State.mk pending held now ms0 ms1 strapMs0 strapMs1 lcs link sessions tasks closures locs timing buses feeds
      governors notices).session i = sessions[i.val] := rfl

theorem bus_mk (b : Fin 4) :
    (State.mk pending held now ms0 ms1 strapMs0 strapMs1 lcs link sessions tasks closures locs timing buses feeds
      governors notices).bus b = buses[b.val] := rfl

theorem feed_mk (b : Fin 4) :
    (State.mk pending held now ms0 ms1 strapMs0 strapMs1 lcs link sessions tasks closures locs timing buses feeds
      governors notices).feed b = feeds[b.val] := rfl

theorem governor_mk (b : Fin 4) :
    (State.mk pending held now ms0 ms1 strapMs0 strapMs1 lcs link sessions tasks closures locs timing buses feeds
      governors notices).governor b = governors[b.val] := rfl

theorem loc_mk (l : Loc) :
    (State.mk pending held now ms0 ms1 strapMs0 strapMs1 lcs link sessions tasks closures locs timing buses feeds
      governors notices).loc l = (locs[l.bus.val])[l.idx.val] := rfl

theorem findTask_mk (id : Nat) :
    (State.mk pending held now ms0 ms1 strapMs0 strapMs1 lcs link sessions tasks closures locs timing buses feeds
      governors notices).findTask id = tasks.find? fun t => t.id == id := rfl

end Written

theorem find_tasks (id : Nat) : (s.tasks.find? fun t => t.id == id) = s.findTask id := rfl

/-- Two vectors of sessions, buses, feeds, governors or locations with the same entries are the same. -/
theorem ext_sessions {s t : State} (h : ∀ i, s.session i = t.session i) : s.sessions = t.sessions :=
  Vector.ext fun i hi => h ⟨i, hi⟩

theorem ext_buses {s t : State} (h : ∀ b, s.bus b = t.bus b) : s.buses = t.buses := Vector.ext fun i hi => h ⟨i, hi⟩

theorem ext_feeds {s t : State} (h : ∀ b, s.feed b = t.feed b) : s.feeds = t.feeds := Vector.ext fun i hi => h ⟨i, hi⟩

theorem ext_governors {s t : State} (h : ∀ b, s.governor b = t.governor b) : s.governors = t.governors :=
  Vector.ext fun i hi => h ⟨i, hi⟩

theorem ext_locs {s t : State} (h : ∀ l, s.loc l = t.loc l) : s.locs = t.locs :=
  Vector.ext fun b hb => Vector.ext fun i hi => h { bus := ⟨b, hb⟩, idx := ⟨i, hi⟩ }

/-- States with the same fields, the vectors read record by record, are the same. -/
theorem ext_fields {s t : State} (pending : s.pending = t.pending) (held : s.held = t.held) (now : s.now = t.now)
    (ms0 : s.ms0 = t.ms0) (ms1 : s.ms1 = t.ms1) (strapMs0 : s.strapMs0 = t.strapMs0) (strapMs1 : s.strapMs1 = t.strapMs1)
    (lcs : s.lcs = t.lcs) (link : s.link = t.link) (sessions : ∀ i, s.session i = t.session i) (tasks : s.tasks = t.tasks)
    (closures : s.closures = t.closures) (locs : ∀ l, s.loc l = t.loc l) (timing : s.timing = t.timing)
    (buses : ∀ b, s.bus b = t.bus b) (feeds : ∀ b, s.feed b = t.feed b) (governors : ∀ b, s.governor b = t.governor b)
    (notices : s.notices = t.notices) : s = t := by
  have h1 := ext_sessions sessions
  have h2 := ext_locs locs
  have h3 := ext_buses buses
  have h4 := ext_feeds feeds
  have h5 := ext_governors governors
  cases s
  cases t
  simp_all

end Sys2Proof.Machine.State
end

