-- ==== Sys2Proof/Laws/Ops.lean ====
section
/-! SUPPORT. What each shared operation leaves as it was. -/

namespace Sys2Proof.Machine.State

variable (s : State)

@[simp] theorem queueNotice_frame (n : Notice) (c : Option Nat) :
    (s.queueNotice n c).pending = s.pending ∧ (s.queueNotice n c).held = s.held ∧ (s.queueNotice n c).now = s.now ∧
    (s.queueNotice n c).ms0 = s.ms0 ∧ (s.queueNotice n c).ms1 = s.ms1 ∧ (s.queueNotice n c).strapMs0 = s.strapMs0 ∧
    (s.queueNotice n c).strapMs1 = s.strapMs1 ∧ (s.queueNotice n c).lcs = s.lcs ∧ (s.queueNotice n c).link.request =
    s.link.request ∧ (s.queueNotice n c).link.replies = s.link.replies ∧ (s.queueNotice n c).link.lastOutcome =
    s.link.lastOutcome ∧ (s.queueNotice n c).link.readySample = s.link.readySample ∧ (s.queueNotice n
    c).link.outbound = s.link.outbound ∧ (s.queueNotice n c).link.status = s.link.status ∧ (s.queueNotice n
    c).sessions = s.sessions ∧ (s.queueNotice n c).tasks = s.tasks ∧ (s.queueNotice n c).closures = s.closures ∧
    (s.queueNotice n c).locs = s.locs ∧ (s.queueNotice n c).timing = s.timing ∧ (s.queueNotice n c).buses = s.buses
    ∧ (s.queueNotice n c).feeds = s.feeds ∧ (s.queueNotice n c).governors = s.governors ∧ (s.queueNotice n
    c).notices.classes = s.notices.classes ∧ (s.queueNotice n c).notices.mask = s.notices.mask ∧ (s.queueNotice n
    c).notices.transmitting = s.notices.transmitting ∧ (∀ j, (s.queueNotice n c).session j = s.session j) ∧ (∀ m,
    (s.queueNotice n c).loc m = s.loc m) ∧ (∀ j, (s.queueNotice n c).bus j = s.bus j) ∧ (∀ j, (s.queueNotice n
    c).feed j = s.feed j) ∧ (∀ j, (s.queueNotice n c).governor j = s.governor j) ∧ (∀ j, (s.queueNotice n
    c).findTask j = s.findTask j) := by
  unfold queueNotice
  simp only []
  split
  · simp
  · unfold NoticeQueue.offer
    repeat' split
    all_goals and_intros <;> intros <;> rfl

@[simp] theorem queueNotices_frame (ns : List Notice) :
    (s.queueNotices ns).pending = s.pending ∧ (s.queueNotices ns).held = s.held ∧ (s.queueNotices ns).now = s.now ∧
    (s.queueNotices ns).ms0 = s.ms0 ∧ (s.queueNotices ns).ms1 = s.ms1 ∧ (s.queueNotices ns).strapMs0 = s.strapMs0 ∧
    (s.queueNotices ns).strapMs1 = s.strapMs1 ∧ (s.queueNotices ns).lcs = s.lcs ∧ (s.queueNotices ns).link.request =
    s.link.request ∧ (s.queueNotices ns).link.replies = s.link.replies ∧ (s.queueNotices ns).link.lastOutcome =
    s.link.lastOutcome ∧ (s.queueNotices ns).link.readySample = s.link.readySample ∧ (s.queueNotices
    ns).link.outbound = s.link.outbound ∧ (s.queueNotices ns).link.status = s.link.status ∧ (s.queueNotices
    ns).sessions = s.sessions ∧ (s.queueNotices ns).tasks = s.tasks ∧ (s.queueNotices ns).closures = s.closures ∧
    (s.queueNotices ns).locs = s.locs ∧ (s.queueNotices ns).timing = s.timing ∧ (s.queueNotices ns).buses = s.buses
    ∧ (s.queueNotices ns).feeds = s.feeds ∧ (s.queueNotices ns).governors = s.governors ∧ (s.queueNotices
    ns).notices.classes = s.notices.classes ∧ (s.queueNotices ns).notices.mask = s.notices.mask ∧ (s.queueNotices
    ns).notices.transmitting = s.notices.transmitting ∧ (∀ j, (s.queueNotices ns).session j = s.session j) ∧ (∀ m,
    (s.queueNotices ns).loc m = s.loc m) ∧ (∀ j, (s.queueNotices ns).bus j = s.bus j) ∧ (∀ j, (s.queueNotices
    ns).feed j = s.feed j) ∧ (∀ j, (s.queueNotices ns).governor j = s.governor j) ∧ (∀ j, (s.queueNotices
    ns).findTask j = s.findTask j) := by
  unfold queueNotices
  induction ns generalizing s with
  | nil => simp
  | cons n ns ih => simp [ih]

@[simp] theorem queuePress_frame (l : Loc) (k : Key) (o : PressOutcome) (t : Option Nat) (i : Option (Fin 8)) :
    (s.queuePress l k o t i).pending = s.pending ∧ (s.queuePress l k o t i).held = s.held ∧ (s.queuePress l k o t
    i).now = s.now ∧ (s.queuePress l k o t i).ms0 = s.ms0 ∧ (s.queuePress l k o t i).ms1 = s.ms1 ∧ (s.queuePress l k
    o t i).strapMs0 = s.strapMs0 ∧ (s.queuePress l k o t i).strapMs1 = s.strapMs1 ∧ (s.queuePress l k o t i).lcs =
    s.lcs ∧ (s.queuePress l k o t i).link.request = s.link.request ∧ (s.queuePress l k o t i).link.replies =
    s.link.replies ∧ (s.queuePress l k o t i).link.lastOutcome = s.link.lastOutcome ∧ (s.queuePress l k o t
    i).link.readySample = s.link.readySample ∧ (s.queuePress l k o t i).link.outbound = s.link.outbound ∧
    (s.queuePress l k o t i).link.status = s.link.status ∧ (s.queuePress l k o t i).sessions = s.sessions ∧
    (s.queuePress l k o t i).tasks = s.tasks ∧ (s.queuePress l k o t i).closures = s.closures ∧ (s.queuePress l k o
    t i).locs = s.locs ∧ (s.queuePress l k o t i).timing = s.timing ∧ (s.queuePress l k o t i).buses = s.buses ∧
    (s.queuePress l k o t i).feeds = s.feeds ∧ (s.queuePress l k o t i).governors = s.governors ∧ (s.queuePress l k
    o t i).notices.classes = s.notices.classes ∧ (s.queuePress l k o t i).notices.mask = s.notices.mask ∧
    (s.queuePress l k o t i).notices.transmitting = s.notices.transmitting ∧ (∀ j, (s.queuePress l k o t i).session
    j = s.session j) ∧ (∀ m, (s.queuePress l k o t i).loc m = s.loc m) ∧ (∀ j, (s.queuePress l k o t i).bus j =
    s.bus j) ∧ (∀ j, (s.queuePress l k o t i).feed j = s.feed j) ∧ (∀ j, (s.queuePress l k o t i).governor j =
    s.governor j) ∧ (∀ j, (s.queuePress l k o t i).findTask j = s.findTask j) := by
  unfold queuePress
  simp

@[simp] theorem unlist_frame (l : Loc) (id : Nat) :
    (s.unlist l id).pending = s.pending ∧ (s.unlist l id).held = s.held ∧ (s.unlist l id).now = s.now ∧ (s.unlist l
    id).ms0 = s.ms0 ∧ (s.unlist l id).ms1 = s.ms1 ∧ (s.unlist l id).strapMs0 = s.strapMs0 ∧ (s.unlist l id).strapMs1
    = s.strapMs1 ∧ (s.unlist l id).lcs = s.lcs ∧ (s.unlist l id).link = s.link ∧ (s.unlist l id).sessions =
    s.sessions ∧ (s.unlist l id).tasks = s.tasks ∧ (s.unlist l id).closures = s.closures ∧ (s.unlist l id).timing =
    s.timing ∧ (s.unlist l id).buses = s.buses ∧ (s.unlist l id).feeds = s.feeds ∧ (s.unlist l id).governors =
    s.governors ∧ (s.unlist l id).notices = s.notices ∧ (∀ j, (s.unlist l id).session j = s.session j) ∧ (∀ j,
    (s.unlist l id).bus j = s.bus j) ∧ (∀ j, (s.unlist l id).feed j = s.feed j) ∧ (∀ j, (s.unlist l id).governor j =
    s.governor j) ∧ (∀ j, (s.unlist l id).findTask j = s.findTask j) := by
  unfold unlist
  simp

@[simp] theorem endHold_frame (l : Loc) (id : Nat) :
    (s.endHold l id).pending = s.pending ∧ (s.endHold l id).held = s.held ∧ (s.endHold l id).now = s.now ∧
    (s.endHold l id).ms0 = s.ms0 ∧ (s.endHold l id).ms1 = s.ms1 ∧ (s.endHold l id).strapMs0 = s.strapMs0 ∧
    (s.endHold l id).strapMs1 = s.strapMs1 ∧ (s.endHold l id).lcs = s.lcs ∧ (s.endHold l id).link = s.link ∧
    (s.endHold l id).sessions = s.sessions ∧ (s.endHold l id).tasks = s.tasks ∧ (s.endHold l id).closures =
    s.closures ∧ (s.endHold l id).timing = s.timing ∧ (s.endHold l id).buses = s.buses ∧ (s.endHold l id).feeds =
    s.feeds ∧ (s.endHold l id).governors = s.governors ∧ (s.endHold l id).notices = s.notices ∧ (∀ j, (s.endHold l
    id).session j = s.session j) ∧ (∀ j, (s.endHold l id).bus j = s.bus j) ∧ (∀ j, (s.endHold l id).feed j = s.feed
    j) ∧ (∀ j, (s.endHold l id).governor j = s.governor j) ∧ (∀ j, (s.endHold l id).findTask j = s.findTask j) := by
  unfold endHold
  simp

@[simp] theorem release_frame (q : Option Nat) :
    (s.release q).pending = s.pending ∧ (s.release q).held = s.held ∧ (s.release q).now = s.now ∧ (s.release q).ms0
    = s.ms0 ∧ (s.release q).ms1 = s.ms1 ∧ (s.release q).strapMs0 = s.strapMs0 ∧ (s.release q).strapMs1 = s.strapMs1
    ∧ (s.release q).lcs = s.lcs ∧ (s.release q).link = s.link ∧ (s.release q).sessions = s.sessions ∧ (s.release
    q).closures = s.closures ∧ (s.release q).locs = s.locs ∧ (s.release q).timing = s.timing ∧ (s.release q).buses =
    s.buses ∧ (s.release q).feeds = s.feeds ∧ (s.release q).governors = s.governors ∧ (s.release q).notices =
    s.notices ∧ (∀ j, (s.release q).session j = s.session j) ∧ (∀ m, (s.release q).loc m = s.loc m) ∧ (∀ j,
    (s.release q).bus j = s.bus j) ∧ (∀ j, (s.release q).feed j = s.feed j) ∧ (∀ j, (s.release q).governor j =
    s.governor j) := by
  unfold release
  split
  all_goals simp

@[simp] theorem startLinger_frame (l : Loc) (id : Nat) (i : Fin 8) :
    (s.startLinger l id i).pending = s.pending ∧ (s.startLinger l id i).held = s.held ∧ (s.startLinger l id i).now =
    s.now ∧ (s.startLinger l id i).ms0 = s.ms0 ∧ (s.startLinger l id i).ms1 = s.ms1 ∧ (s.startLinger l id
    i).strapMs0 = s.strapMs0 ∧ (s.startLinger l id i).strapMs1 = s.strapMs1 ∧ (s.startLinger l id i).lcs = s.lcs ∧
    (s.startLinger l id i).link = s.link ∧ (s.startLinger l id i).sessions = s.sessions ∧ (s.startLinger l id
    i).tasks = s.tasks ∧ (s.startLinger l id i).closures = s.closures ∧ (s.startLinger l id i).timing = s.timing ∧
    (s.startLinger l id i).buses = s.buses ∧ (s.startLinger l id i).feeds = s.feeds ∧ (s.startLinger l id
    i).governors = s.governors ∧ (s.startLinger l id i).notices = s.notices ∧ (∀ j, (s.startLinger l id i).session j
    = s.session j) ∧ (∀ j, (s.startLinger l id i).bus j = s.bus j) ∧ (∀ j, (s.startLinger l id i).feed j = s.feed j)
    ∧ (∀ j, (s.startLinger l id i).governor j = s.governor j) ∧ (∀ j, (s.startLinger l id i).findTask j = s.findTask
    j) := by
  unfold startLinger
  simp only []
  split
  all_goals simp

@[simp] theorem closeTask_frame (t : Task) (o : TaskOutcome) (p : Nat) :
    (s.closeTask t o p).pending = s.pending ∧ (s.closeTask t o p).held = s.held ∧ (s.closeTask t o p).now = s.now ∧
    (s.closeTask t o p).ms0 = s.ms0 ∧ (s.closeTask t o p).ms1 = s.ms1 ∧ (s.closeTask t o p).strapMs0 = s.strapMs0 ∧
    (s.closeTask t o p).strapMs1 = s.strapMs1 ∧ (s.closeTask t o p).lcs = s.lcs ∧ (s.closeTask t o p).link.request =
    s.link.request ∧ (s.closeTask t o p).link.replies = s.link.replies ∧ (s.closeTask t o p).link.lastOutcome =
    s.link.lastOutcome ∧ (s.closeTask t o p).link.readySample = s.link.readySample ∧ (s.closeTask t o
    p).link.outbound = s.link.outbound ∧ (s.closeTask t o p).link.status = s.link.status ∧ (s.closeTask t o
    p).sessions = s.sessions ∧ (s.closeTask t o p).timing = s.timing ∧ (s.closeTask t o p).buses = s.buses ∧
    (s.closeTask t o p).feeds = s.feeds ∧ (s.closeTask t o p).governors = s.governors ∧ (s.closeTask t o
    p).notices.classes = s.notices.classes ∧ (s.closeTask t o p).notices.mask = s.notices.mask ∧ (s.closeTask t o
    p).notices.transmitting = s.notices.transmitting ∧ (∀ j, (s.closeTask t o p).session j = s.session j) ∧ (∀ j,
    (s.closeTask t o p).bus j = s.bus j) ∧ (∀ j, (s.closeTask t o p).feed j = s.feed j) ∧ (∀ j, (s.closeTask t o
    p).governor j = s.governor j) := by
  unfold closeTask
  simp [session_mk, bus_mk, feed_mk, governor_mk, getElem_sessions, getElem_buses, getElem_feeds, getElem_governors]

@[simp] theorem keepPartial_frame (t : Task) (p : Nat) :
    (s.keepPartial t p).pending = s.pending ∧ (s.keepPartial t p).held = s.held ∧ (s.keepPartial t p).now = s.now ∧
    (s.keepPartial t p).ms0 = s.ms0 ∧ (s.keepPartial t p).ms1 = s.ms1 ∧ (s.keepPartial t p).strapMs0 = s.strapMs0 ∧
    (s.keepPartial t p).strapMs1 = s.strapMs1 ∧ (s.keepPartial t p).lcs = s.lcs ∧ (s.keepPartial t p).link.request =
    s.link.request ∧ (s.keepPartial t p).link.replies = s.link.replies ∧ (s.keepPartial t p).link.lastOutcome =
    s.link.lastOutcome ∧ (s.keepPartial t p).link.readySample = s.link.readySample ∧ (s.keepPartial t
    p).link.outbound = s.link.outbound ∧ (s.keepPartial t p).link.status = s.link.status ∧ (s.keepPartial t
    p).sessions = s.sessions ∧ (s.keepPartial t p).closures = s.closures ∧ (s.keepPartial t p).timing = s.timing ∧
    (s.keepPartial t p).buses = s.buses ∧ (s.keepPartial t p).feeds = s.feeds ∧ (s.keepPartial t p).governors =
    s.governors ∧ (s.keepPartial t p).notices.classes = s.notices.classes ∧ (s.keepPartial t p).notices.mask =
    s.notices.mask ∧ (s.keepPartial t p).notices.transmitting = s.notices.transmitting ∧ (∀ j, (s.keepPartial t
    p).session j = s.session j) ∧ (∀ j, (s.keepPartial t p).bus j = s.bus j) ∧ (∀ j, (s.keepPartial t p).feed j =
    s.feed j) ∧ (∀ j, (s.keepPartial t p).governor j = s.governor j) := by
  unfold keepPartial
  simp

@[simp] theorem applyConfirm_frame (t : Task) (p : Nat) :
    (s.applyConfirm t p).pending = s.pending ∧ (s.applyConfirm t p).held = s.held ∧ (s.applyConfirm t p).now = s.now
    ∧ (s.applyConfirm t p).ms0 = s.ms0 ∧ (s.applyConfirm t p).ms1 = s.ms1 ∧ (s.applyConfirm t p).strapMs0 =
    s.strapMs0 ∧ (s.applyConfirm t p).strapMs1 = s.strapMs1 ∧ (s.applyConfirm t p).lcs = s.lcs ∧ (s.applyConfirm t
    p).link.request = s.link.request ∧ (s.applyConfirm t p).link.replies = s.link.replies ∧ (s.applyConfirm t
    p).link.lastOutcome = s.link.lastOutcome ∧ (s.applyConfirm t p).link.readySample = s.link.readySample ∧
    (s.applyConfirm t p).link.outbound = s.link.outbound ∧ (s.applyConfirm t p).link.status = s.link.status ∧
    (s.applyConfirm t p).sessions = s.sessions ∧ (s.applyConfirm t p).timing = s.timing ∧ (s.applyConfirm t p).buses
    = s.buses ∧ (s.applyConfirm t p).feeds = s.feeds ∧ (s.applyConfirm t p).governors = s.governors ∧
    (s.applyConfirm t p).notices.classes = s.notices.classes ∧ (s.applyConfirm t p).notices.mask = s.notices.mask ∧
    (s.applyConfirm t p).notices.transmitting = s.notices.transmitting ∧ (∀ j, (s.applyConfirm t p).session j =
    s.session j) ∧ (∀ j, (s.applyConfirm t p).bus j = s.bus j) ∧ (∀ j, (s.applyConfirm t p).feed j = s.feed j) ∧ (∀
    j, (s.applyConfirm t p).governor j = s.governor j) := by
  unfold applyConfirm
  repeat' split
  all_goals simp

@[simp] theorem dropPending_frame (t : Task) :
    (s.dropPending t).pending = s.pending ∧ (s.dropPending t).held = s.held ∧ (s.dropPending t).now = s.now ∧
    (s.dropPending t).ms0 = s.ms0 ∧ (s.dropPending t).ms1 = s.ms1 ∧ (s.dropPending t).strapMs0 = s.strapMs0 ∧
    (s.dropPending t).strapMs1 = s.strapMs1 ∧ (s.dropPending t).lcs = s.lcs ∧ (s.dropPending t).link = s.link ∧
    (s.dropPending t).tasks = s.tasks ∧ (s.dropPending t).closures = s.closures ∧ (s.dropPending t).locs = s.locs ∧
    (s.dropPending t).timing = s.timing ∧ (s.dropPending t).buses = s.buses ∧ (s.dropPending t).feeds = s.feeds ∧
    (s.dropPending t).governors = s.governors ∧ (s.dropPending t).notices = s.notices ∧ (∀ m, (s.dropPending t).loc
    m = s.loc m) ∧ (∀ j, (s.dropPending t).bus j = s.bus j) ∧ (∀ j, (s.dropPending t).feed j = s.feed j) ∧ (∀ j,
    (s.dropPending t).governor j = s.governor j) ∧ (∀ j, (s.dropPending t).findTask j = s.findTask j) := by
  unfold dropPending
  simp

@[simp] theorem freeTask_frame (t : Task) :
    (s.freeTask t).pending = s.pending ∧ (s.freeTask t).held = s.held ∧ (s.freeTask t).now = s.now ∧ (s.freeTask
    t).ms0 = s.ms0 ∧ (s.freeTask t).ms1 = s.ms1 ∧ (s.freeTask t).strapMs0 = s.strapMs0 ∧ (s.freeTask t).strapMs1 =
    s.strapMs1 ∧ (s.freeTask t).lcs = s.lcs ∧ (s.freeTask t).link = s.link ∧ (s.freeTask t).closures = s.closures ∧
    (s.freeTask t).timing = s.timing ∧ (s.freeTask t).buses = s.buses ∧ (s.freeTask t).feeds = s.feeds ∧ (s.freeTask
    t).governors = s.governors ∧ (s.freeTask t).notices = s.notices ∧ (∀ j, (s.freeTask t).bus j = s.bus j) ∧ (∀ j,
    (s.freeTask t).feed j = s.feed j) ∧ (∀ j, (s.freeTask t).governor j = s.governor j) := by
  unfold freeTask
  simp

@[simp] theorem sendFrames_frame (b : Fin 4) (fs : List AisleFrame) (x : Exchange) :
    (s.sendFrames b fs x).pending = s.pending ∧ (s.sendFrames b fs x).held = s.held ∧ (s.sendFrames b fs x).now =
    s.now ∧ (s.sendFrames b fs x).ms0 = s.ms0 ∧ (s.sendFrames b fs x).ms1 = s.ms1 ∧ (s.sendFrames b fs x).strapMs0 =
    s.strapMs0 ∧ (s.sendFrames b fs x).strapMs1 = s.strapMs1 ∧ (s.sendFrames b fs x).lcs = s.lcs ∧ (s.sendFrames b
    fs x).link = s.link ∧ (s.sendFrames b fs x).sessions = s.sessions ∧ (s.sendFrames b fs x).tasks = s.tasks ∧
    (s.sendFrames b fs x).closures = s.closures ∧ (s.sendFrames b fs x).locs = s.locs ∧ (s.sendFrames b fs x).timing
    = s.timing ∧ (s.sendFrames b fs x).feeds = s.feeds ∧ (s.sendFrames b fs x).governors = s.governors ∧
    (s.sendFrames b fs x).notices = s.notices ∧ (∀ j, (s.sendFrames b fs x).session j = s.session j) ∧ (∀ m,
    (s.sendFrames b fs x).loc m = s.loc m) ∧ (∀ j, (s.sendFrames b fs x).feed j = s.feed j) ∧ (∀ j, (s.sendFrames b
    fs x).governor j = s.governor j) ∧ (∀ j, (s.sendFrames b fs x).findTask j = s.findTask j) := by
  unfold sendFrames
  simp

@[simp] theorem endExchange_frame (b : Fin 4) :
    (s.endExchange b).pending = s.pending ∧ (s.endExchange b).held = s.held ∧ (s.endExchange b).now = s.now ∧
    (s.endExchange b).ms0 = s.ms0 ∧ (s.endExchange b).ms1 = s.ms1 ∧ (s.endExchange b).strapMs0 = s.strapMs0 ∧
    (s.endExchange b).strapMs1 = s.strapMs1 ∧ (s.endExchange b).lcs = s.lcs ∧ (s.endExchange b).link = s.link ∧
    (s.endExchange b).sessions = s.sessions ∧ (s.endExchange b).tasks = s.tasks ∧ (s.endExchange b).closures =
    s.closures ∧ (s.endExchange b).locs = s.locs ∧ (s.endExchange b).timing = s.timing ∧ (s.endExchange b).feeds =
    s.feeds ∧ (s.endExchange b).governors = s.governors ∧ (s.endExchange b).notices = s.notices ∧ (∀ j,
    (s.endExchange b).session j = s.session j) ∧ (∀ m, (s.endExchange b).loc m = s.loc m) ∧ (∀ j, (s.endExchange
    b).feed j = s.feed j) ∧ (∀ j, (s.endExchange b).governor j = s.governor j) ∧ (∀ j, (s.endExchange b).findTask j
    = s.findTask j) := by
  unfold endExchange
  simp

@[simp] theorem goodAnswer_frame (b : Fin 4) :
    (s.goodAnswer b).pending = s.pending ∧ (s.goodAnswer b).held = s.held ∧ (s.goodAnswer b).now = s.now ∧
    (s.goodAnswer b).ms0 = s.ms0 ∧ (s.goodAnswer b).ms1 = s.ms1 ∧ (s.goodAnswer b).strapMs0 = s.strapMs0 ∧
    (s.goodAnswer b).strapMs1 = s.strapMs1 ∧ (s.goodAnswer b).lcs = s.lcs ∧ (s.goodAnswer b).link.request =
    s.link.request ∧ (s.goodAnswer b).link.replies = s.link.replies ∧ (s.goodAnswer b).link.lastOutcome =
    s.link.lastOutcome ∧ (s.goodAnswer b).link.readySample = s.link.readySample ∧ (s.goodAnswer b).link.outbound =
    s.link.outbound ∧ (s.goodAnswer b).link.status = s.link.status ∧ (s.goodAnswer b).sessions = s.sessions ∧
    (s.goodAnswer b).tasks = s.tasks ∧ (s.goodAnswer b).closures = s.closures ∧ (s.goodAnswer b).locs = s.locs ∧
    (s.goodAnswer b).timing = s.timing ∧ (s.goodAnswer b).feeds = s.feeds ∧ (s.goodAnswer b).governors = s.governors
    ∧ (s.goodAnswer b).notices.classes = s.notices.classes ∧ (s.goodAnswer b).notices.mask = s.notices.mask ∧
    (s.goodAnswer b).notices.transmitting = s.notices.transmitting ∧ (∀ j, (s.goodAnswer b).session j = s.session j)
    ∧ (∀ m, (s.goodAnswer b).loc m = s.loc m) ∧ (∀ j, (s.goodAnswer b).feed j = s.feed j) ∧ (∀ j, (s.goodAnswer
    b).governor j = s.governor j) ∧ (∀ j, (s.goodAnswer b).findTask j = s.findTask j) := by
  unfold goodAnswer
  simp only []
  split
  all_goals simp

@[simp] theorem plan_frame (l : Loc) :
    (s.plan l).pending = s.pending ∧ (s.plan l).held = s.held ∧ (s.plan l).now = s.now ∧ (s.plan l).ms0 = s.ms0 ∧
    (s.plan l).ms1 = s.ms1 ∧ (s.plan l).strapMs0 = s.strapMs0 ∧ (s.plan l).strapMs1 = s.strapMs1 ∧ (s.plan l).lcs =
    s.lcs ∧ (s.plan l).link = s.link ∧ (s.plan l).sessions = s.sessions ∧ (s.plan l).tasks = s.tasks ∧ (s.plan
    l).closures = s.closures ∧ (s.plan l).timing = s.timing ∧ (s.plan l).buses = s.buses ∧ (s.plan l).feeds =
    s.feeds ∧ (s.plan l).governors = s.governors ∧ (s.plan l).notices = s.notices ∧ (∀ j, (s.plan l).session j =
    s.session j) ∧ (∀ j, (s.plan l).bus j = s.bus j) ∧ (∀ j, (s.plan l).feed j = s.feed j) ∧ (∀ j, (s.plan
    l).governor j = s.governor j) ∧ (∀ j, (s.plan l).findTask j = s.findTask j) := by
  unfold plan
  simp

@[simp] theorem setHold_frame (l : Loc) (id : Nat) :
    (s.setHold l id).pending = s.pending ∧ (s.setHold l id).held = s.held ∧ (s.setHold l id).now = s.now ∧
    (s.setHold l id).ms0 = s.ms0 ∧ (s.setHold l id).ms1 = s.ms1 ∧ (s.setHold l id).strapMs0 = s.strapMs0 ∧
    (s.setHold l id).strapMs1 = s.strapMs1 ∧ (s.setHold l id).lcs = s.lcs ∧ (s.setHold l id).link = s.link ∧
    (s.setHold l id).sessions = s.sessions ∧ (s.setHold l id).tasks = s.tasks ∧ (s.setHold l id).closures =
    s.closures ∧ (s.setHold l id).timing = s.timing ∧ (s.setHold l id).buses = s.buses ∧ (s.setHold l id).feeds =
    s.feeds ∧ (s.setHold l id).governors = s.governors ∧ (s.setHold l id).notices = s.notices ∧ (∀ j, (s.setHold l
    id).session j = s.session j) ∧ (∀ j, (s.setHold l id).bus j = s.bus j) ∧ (∀ j, (s.setHold l id).feed j = s.feed
    j) ∧ (∀ j, (s.setHold l id).governor j = s.governor j) ∧ (∀ j, (s.setHold l id).findTask j = s.findTask j) := by
  unfold setHold
  simp

@[simp] theorem applyMinus_frame (l : Loc) (t : Task) :
    (s.applyMinus l t).pending = s.pending ∧ (s.applyMinus l t).held = s.held ∧ (s.applyMinus l t).now = s.now ∧
    (s.applyMinus l t).ms0 = s.ms0 ∧ (s.applyMinus l t).ms1 = s.ms1 ∧ (s.applyMinus l t).strapMs0 = s.strapMs0 ∧
    (s.applyMinus l t).strapMs1 = s.strapMs1 ∧ (s.applyMinus l t).lcs = s.lcs ∧ (s.applyMinus l t).link = s.link ∧
    (s.applyMinus l t).sessions = s.sessions ∧ (s.applyMinus l t).closures = s.closures ∧ (s.applyMinus l t).timing
    = s.timing ∧ (s.applyMinus l t).buses = s.buses ∧ (s.applyMinus l t).feeds = s.feeds ∧ (s.applyMinus l
    t).governors = s.governors ∧ (s.applyMinus l t).notices = s.notices ∧ (∀ j, (s.applyMinus l t).session j =
    s.session j) ∧ (∀ j, (s.applyMinus l t).bus j = s.bus j) ∧ (∀ j, (s.applyMinus l t).feed j = s.feed j) ∧ (∀ j,
    (s.applyMinus l t).governor j = s.governor j) := by
  unfold applyMinus
  simp

@[simp] theorem applyPlus_frame (l : Loc) (t : Task) :
    (s.applyPlus l t).pending = s.pending ∧ (s.applyPlus l t).held = s.held ∧ (s.applyPlus l t).now = s.now ∧
    (s.applyPlus l t).ms0 = s.ms0 ∧ (s.applyPlus l t).ms1 = s.ms1 ∧ (s.applyPlus l t).strapMs0 = s.strapMs0 ∧
    (s.applyPlus l t).strapMs1 = s.strapMs1 ∧ (s.applyPlus l t).lcs = s.lcs ∧ (s.applyPlus l t).link = s.link ∧
    (s.applyPlus l t).sessions = s.sessions ∧ (s.applyPlus l t).closures = s.closures ∧ (s.applyPlus l t).timing =
    s.timing ∧ (s.applyPlus l t).buses = s.buses ∧ (s.applyPlus l t).feeds = s.feeds ∧ (s.applyPlus l t).governors =
    s.governors ∧ (s.applyPlus l t).notices = s.notices ∧ (∀ j, (s.applyPlus l t).session j = s.session j) ∧ (∀ j,
    (s.applyPlus l t).bus j = s.bus j) ∧ (∀ j, (s.applyPlus l t).feed j = s.feed j) ∧ (∀ j, (s.applyPlus l
    t).governor j = s.governor j) := by
  unfold applyPlus
  simp

@[simp] theorem holdConfirm_frame (l : Loc) (t : Task) (p : Instant) :
    (s.holdConfirm l t p).pending = s.pending ∧ (s.holdConfirm l t p).held = s.held ∧ (s.holdConfirm l t p).now =
    s.now ∧ (s.holdConfirm l t p).ms0 = s.ms0 ∧ (s.holdConfirm l t p).ms1 = s.ms1 ∧ (s.holdConfirm l t p).strapMs0 =
    s.strapMs0 ∧ (s.holdConfirm l t p).strapMs1 = s.strapMs1 ∧ (s.holdConfirm l t p).lcs = s.lcs ∧ (s.holdConfirm l
    t p).link.request = s.link.request ∧ (s.holdConfirm l t p).link.replies = s.link.replies ∧ (s.holdConfirm l t
    p).link.lastOutcome = s.link.lastOutcome ∧ (s.holdConfirm l t p).link.readySample = s.link.readySample ∧
    (s.holdConfirm l t p).link.outbound = s.link.outbound ∧ (s.holdConfirm l t p).link.status = s.link.status ∧
    (s.holdConfirm l t p).tasks = s.tasks ∧ (s.holdConfirm l t p).closures = s.closures ∧ (s.holdConfirm l t p).locs
    = s.locs ∧ (s.holdConfirm l t p).timing = s.timing ∧ (s.holdConfirm l t p).buses = s.buses ∧ (s.holdConfirm l t
    p).feeds = s.feeds ∧ (s.holdConfirm l t p).governors = s.governors ∧ (s.holdConfirm l t p).notices.classes =
    s.notices.classes ∧ (s.holdConfirm l t p).notices.mask = s.notices.mask ∧ (s.holdConfirm l t
    p).notices.transmitting = s.notices.transmitting ∧ (∀ m, (s.holdConfirm l t p).loc m = s.loc m) ∧ (∀ j,
    (s.holdConfirm l t p).bus j = s.bus j) ∧ (∀ j, (s.holdConfirm l t p).feed j = s.feed j) ∧ (∀ j, (s.holdConfirm l
    t p).governor j = s.governor j) ∧ (∀ j, (s.holdConfirm l t p).findTask j = s.findTask j) := by
  unfold holdConfirm
  simp only []
  split
  all_goals simp

@[simp] theorem pressOpen_frame (l : Loc) (k : Key) (p : Instant) (t : Task) :
    (s.pressOpen l k p t).pending = s.pending ∧ (s.pressOpen l k p t).held = s.held ∧ (s.pressOpen l k p t).now =
    s.now ∧ (s.pressOpen l k p t).ms0 = s.ms0 ∧ (s.pressOpen l k p t).ms1 = s.ms1 ∧ (s.pressOpen l k p t).strapMs0 =
    s.strapMs0 ∧ (s.pressOpen l k p t).strapMs1 = s.strapMs1 ∧ (s.pressOpen l k p t).lcs = s.lcs ∧ (s.pressOpen l k
    p t).link.request = s.link.request ∧ (s.pressOpen l k p t).link.replies = s.link.replies ∧ (s.pressOpen l k p
    t).link.lastOutcome = s.link.lastOutcome ∧ (s.pressOpen l k p t).link.readySample = s.link.readySample ∧
    (s.pressOpen l k p t).link.outbound = s.link.outbound ∧ (s.pressOpen l k p t).link.status = s.link.status ∧
    (s.pressOpen l k p t).timing = s.timing ∧ (s.pressOpen l k p t).buses = s.buses ∧ (s.pressOpen l k p t).feeds =
    s.feeds ∧ (s.pressOpen l k p t).governors = s.governors ∧ (s.pressOpen l k p t).notices.classes =
    s.notices.classes ∧ (s.pressOpen l k p t).notices.mask = s.notices.mask ∧ (s.pressOpen l k p
    t).notices.transmitting = s.notices.transmitting ∧ (∀ j, (s.pressOpen l k p t).bus j = s.bus j) ∧ (∀ j,
    (s.pressOpen l k p t).feed j = s.feed j) ∧ (∀ j, (s.pressOpen l k p t).governor j = s.governor j) := by
  unfold pressOpen
  repeat' split
  all_goals simp

@[simp] theorem pressTarget_frame (l : Loc) (k : Key) (p : Instant) (x : Shown) :
    (s.pressTarget l k p x).pending = s.pending ∧ (s.pressTarget l k p x).held = s.held ∧ (s.pressTarget l k p
    x).now = s.now ∧ (s.pressTarget l k p x).ms0 = s.ms0 ∧ (s.pressTarget l k p x).ms1 = s.ms1 ∧ (s.pressTarget l k
    p x).strapMs0 = s.strapMs0 ∧ (s.pressTarget l k p x).strapMs1 = s.strapMs1 ∧ (s.pressTarget l k p x).lcs = s.lcs
    ∧ (s.pressTarget l k p x).link.request = s.link.request ∧ (s.pressTarget l k p x).link.replies = s.link.replies
    ∧ (s.pressTarget l k p x).link.lastOutcome = s.link.lastOutcome ∧ (s.pressTarget l k p x).link.readySample =
    s.link.readySample ∧ (s.pressTarget l k p x).link.outbound = s.link.outbound ∧ (s.pressTarget l k p
    x).link.status = s.link.status ∧ (s.pressTarget l k p x).timing = s.timing ∧ (s.pressTarget l k p x).buses =
    s.buses ∧ (s.pressTarget l k p x).feeds = s.feeds ∧ (s.pressTarget l k p x).governors = s.governors ∧
    (s.pressTarget l k p x).notices.classes = s.notices.classes ∧ (s.pressTarget l k p x).notices.mask =
    s.notices.mask ∧ (s.pressTarget l k p x).notices.transmitting = s.notices.transmitting ∧ (∀ j, (s.pressTarget l
    k p x).bus j = s.bus j) ∧ (∀ j, (s.pressTarget l k p x).feed j = s.feed j) ∧ (∀ j, (s.pressTarget l k p
    x).governor j = s.governor j) := by
  unfold pressTarget
  repeat' split
  all_goals simp

@[simp] theorem pressEntry_frame (l : Loc) (k : Key) (e : KeyEvent) (t : Fin 8) (u : TokenEntry) :
    (s.pressEntry l k e t u).pending = s.pending ∧ (s.pressEntry l k e t u).held = s.held ∧ (s.pressEntry l k e t
    u).now = s.now ∧ (s.pressEntry l k e t u).ms0 = s.ms0 ∧ (s.pressEntry l k e t u).ms1 = s.ms1 ∧ (s.pressEntry l k
    e t u).strapMs0 = s.strapMs0 ∧ (s.pressEntry l k e t u).strapMs1 = s.strapMs1 ∧ (s.pressEntry l k e t u).lcs =
    s.lcs ∧ (s.pressEntry l k e t u).link.request = s.link.request ∧ (s.pressEntry l k e t u).link.replies =
    s.link.replies ∧ (s.pressEntry l k e t u).link.lastOutcome = s.link.lastOutcome ∧ (s.pressEntry l k e t
    u).link.readySample = s.link.readySample ∧ (s.pressEntry l k e t u).link.outbound = s.link.outbound ∧
    (s.pressEntry l k e t u).link.status = s.link.status ∧ (s.pressEntry l k e t u).timing = s.timing ∧
    (s.pressEntry l k e t u).buses = s.buses ∧ (s.pressEntry l k e t u).feeds = s.feeds ∧ (s.pressEntry l k e t
    u).governors = s.governors ∧ (s.pressEntry l k e t u).notices.classes = s.notices.classes ∧ (s.pressEntry l k e
    t u).notices.mask = s.notices.mask ∧ (s.pressEntry l k e t u).notices.transmitting = s.notices.transmitting ∧ (∀
    j, (s.pressEntry l k e t u).bus j = s.bus j) ∧ (∀ j, (s.pressEntry l k e t u).feed j = s.feed j) ∧ (∀ j,
    (s.pressEntry l k e t u).governor j = s.governor j) := by
  unfold pressEntry
  split
  all_goals simp

@[simp] theorem resolvePress_frame (l : Loc) (e : KeyEvent) :
    (s.resolvePress l e).pending = s.pending ∧ (s.resolvePress l e).held = s.held ∧ (s.resolvePress l e).now = s.now
    ∧ (s.resolvePress l e).ms0 = s.ms0 ∧ (s.resolvePress l e).ms1 = s.ms1 ∧ (s.resolvePress l e).strapMs0 =
    s.strapMs0 ∧ (s.resolvePress l e).strapMs1 = s.strapMs1 ∧ (s.resolvePress l e).lcs = s.lcs ∧ (s.resolvePress l
    e).link.request = s.link.request ∧ (s.resolvePress l e).link.replies = s.link.replies ∧ (s.resolvePress l
    e).link.lastOutcome = s.link.lastOutcome ∧ (s.resolvePress l e).link.readySample = s.link.readySample ∧
    (s.resolvePress l e).link.outbound = s.link.outbound ∧ (s.resolvePress l e).link.status = s.link.status ∧
    (s.resolvePress l e).timing = s.timing ∧ (s.resolvePress l e).buses = s.buses ∧ (s.resolvePress l e).feeds =
    s.feeds ∧ (s.resolvePress l e).governors = s.governors ∧ (s.resolvePress l e).notices.classes =
    s.notices.classes ∧ (s.resolvePress l e).notices.mask = s.notices.mask ∧ (s.resolvePress l
    e).notices.transmitting = s.notices.transmitting ∧ (∀ j, (s.resolvePress l e).bus j = s.bus j) ∧ (∀ j,
    (s.resolvePress l e).feed j = s.feed j) ∧ (∀ j, (s.resolvePress l e).governor j = s.governor j) := by
  unfold resolvePress
  repeat' split
  all_goals simp

@[simp] theorem takeEvent_frame (l : Loc) (e : KeyEvent) :
    (s.takeEvent l e).pending = s.pending ∧ (s.takeEvent l e).held = s.held ∧ (s.takeEvent l e).now = s.now ∧
    (s.takeEvent l e).ms0 = s.ms0 ∧ (s.takeEvent l e).ms1 = s.ms1 ∧ (s.takeEvent l e).strapMs0 = s.strapMs0 ∧
    (s.takeEvent l e).strapMs1 = s.strapMs1 ∧ (s.takeEvent l e).lcs = s.lcs ∧ (s.takeEvent l e).link.request =
    s.link.request ∧ (s.takeEvent l e).link.replies = s.link.replies ∧ (s.takeEvent l e).link.lastOutcome =
    s.link.lastOutcome ∧ (s.takeEvent l e).link.readySample = s.link.readySample ∧ (s.takeEvent l e).link.outbound =
    s.link.outbound ∧ (s.takeEvent l e).link.status = s.link.status ∧ (s.takeEvent l e).timing = s.timing ∧
    (s.takeEvent l e).buses = s.buses ∧ (s.takeEvent l e).feeds = s.feeds ∧ (s.takeEvent l e).governors =
    s.governors ∧ (s.takeEvent l e).notices.classes = s.notices.classes ∧ (s.takeEvent l e).notices.mask =
    s.notices.mask ∧ (s.takeEvent l e).notices.transmitting = s.notices.transmitting ∧ (∀ j, (s.takeEvent l e).bus j
    = s.bus j) ∧ (∀ j, (s.takeEvent l e).feed j = s.feed j) ∧ (∀ j, (s.takeEvent l e).governor j = s.governor j) := by
  unfold takeEvent
  split
  all_goals simp

@[simp] theorem takeKeys_frame (l : Loc) (e : Option KeyEvent) :
    (s.takeKeys l e).pending = s.pending ∧ (s.takeKeys l e).held = s.held ∧ (s.takeKeys l e).now = s.now ∧
    (s.takeKeys l e).ms0 = s.ms0 ∧ (s.takeKeys l e).ms1 = s.ms1 ∧ (s.takeKeys l e).strapMs0 = s.strapMs0 ∧
    (s.takeKeys l e).strapMs1 = s.strapMs1 ∧ (s.takeKeys l e).lcs = s.lcs ∧ (s.takeKeys l e).link.request =
    s.link.request ∧ (s.takeKeys l e).link.replies = s.link.replies ∧ (s.takeKeys l e).link.lastOutcome =
    s.link.lastOutcome ∧ (s.takeKeys l e).link.readySample = s.link.readySample ∧ (s.takeKeys l e).link.outbound =
    s.link.outbound ∧ (s.takeKeys l e).link.status = s.link.status ∧ (s.takeKeys l e).timing = s.timing ∧
    (s.takeKeys l e).buses = s.buses ∧ (s.takeKeys l e).feeds = s.feeds ∧ (s.takeKeys l e).governors = s.governors ∧
    (s.takeKeys l e).notices.classes = s.notices.classes ∧ (s.takeKeys l e).notices.mask = s.notices.mask ∧
    (s.takeKeys l e).notices.transmitting = s.notices.transmitting ∧ (∀ j, (s.takeKeys l e).bus j = s.bus j) ∧ (∀ j,
    (s.takeKeys l e).feed j = s.feed j) ∧ (∀ j, (s.takeKeys l e).governor j = s.governor j) := by
  unfold takeKeys
  split
  all_goals simp

@[simp] theorem classifyAt_frame (l : Loc) (x : Identity) (t : Bool) :
    (s.classifyAt l x t).pending = s.pending ∧ (s.classifyAt l x t).held = s.held ∧ (s.classifyAt l x t).now = s.now
    ∧ (s.classifyAt l x t).ms0 = s.ms0 ∧ (s.classifyAt l x t).ms1 = s.ms1 ∧ (s.classifyAt l x t).strapMs0 =
    s.strapMs0 ∧ (s.classifyAt l x t).strapMs1 = s.strapMs1 ∧ (s.classifyAt l x t).lcs = s.lcs ∧ (s.classifyAt l x
    t).link.request = s.link.request ∧ (s.classifyAt l x t).link.replies = s.link.replies ∧ (s.classifyAt l x
    t).link.lastOutcome = s.link.lastOutcome ∧ (s.classifyAt l x t).link.readySample = s.link.readySample ∧
    (s.classifyAt l x t).link.outbound = s.link.outbound ∧ (s.classifyAt l x t).link.status = s.link.status ∧
    (s.classifyAt l x t).sessions = s.sessions ∧ (s.classifyAt l x t).tasks = s.tasks ∧ (s.classifyAt l x
    t).closures = s.closures ∧ (s.classifyAt l x t).timing = s.timing ∧ (s.classifyAt l x t).buses = s.buses ∧
    (s.classifyAt l x t).feeds = s.feeds ∧ (s.classifyAt l x t).governors = s.governors ∧ (s.classifyAt l x
    t).notices.classes = s.notices.classes ∧ (s.classifyAt l x t).notices.mask = s.notices.mask ∧ (s.classifyAt l x
    t).notices.transmitting = s.notices.transmitting ∧ (∀ j, (s.classifyAt l x t).session j = s.session j) ∧ (∀ j,
    (s.classifyAt l x t).bus j = s.bus j) ∧ (∀ j, (s.classifyAt l x t).feed j = s.feed j) ∧ (∀ j, (s.classifyAt l x
    t).governor j = s.governor j) ∧ (∀ j, (s.classifyAt l x t).findTask j = s.findTask j) := by
  unfold classifyAt
  simp only []
  split
  all_goals simp

@[simp] theorem startRelease_frame (b : Fin 4) :
    (s.startRelease b).pending = s.pending ∧ (s.startRelease b).held = s.held ∧ (s.startRelease b).now = s.now ∧
    (s.startRelease b).ms0 = s.ms0 ∧ (s.startRelease b).ms1 = s.ms1 ∧ (s.startRelease b).strapMs0 = s.strapMs0 ∧
    (s.startRelease b).strapMs1 = s.strapMs1 ∧ (s.startRelease b).lcs = s.lcs ∧ (s.startRelease b).link = s.link ∧
    (s.startRelease b).sessions = s.sessions ∧ (s.startRelease b).tasks = s.tasks ∧ (s.startRelease b).closures =
    s.closures ∧ (s.startRelease b).locs = s.locs ∧ (s.startRelease b).timing = s.timing ∧ (s.startRelease b).feeds
    = s.feeds ∧ (s.startRelease b).governors = s.governors ∧ (s.startRelease b).notices = s.notices ∧ (∀ j,
    (s.startRelease b).session j = s.session j) ∧ (∀ m, (s.startRelease b).loc m = s.loc m) ∧ (∀ j, (s.startRelease
    b).feed j = s.feed j) ∧ (∀ j, (s.startRelease b).governor j = s.governor j) ∧ (∀ j, (s.startRelease b).findTask
    j = s.findTask j) := by
  unfold startRelease
  simp

@[simp] theorem leaveService_frame (b : Fin 4) :
    (s.leaveService b).pending = s.pending ∧ (s.leaveService b).held = s.held ∧ (s.leaveService b).now = s.now ∧
    (s.leaveService b).ms0 = s.ms0 ∧ (s.leaveService b).ms1 = s.ms1 ∧ (s.leaveService b).strapMs0 = s.strapMs0 ∧
    (s.leaveService b).strapMs1 = s.strapMs1 ∧ (s.leaveService b).lcs = s.lcs ∧ (s.leaveService b).link = s.link ∧
    (s.leaveService b).sessions = s.sessions ∧ (s.leaveService b).tasks = s.tasks ∧ (s.leaveService b).closures =
    s.closures ∧ (s.leaveService b).locs = s.locs ∧ (s.leaveService b).timing = s.timing ∧ (s.leaveService b).feeds
    = s.feeds ∧ (s.leaveService b).notices = s.notices ∧ (∀ j, (s.leaveService b).session j = s.session j) ∧ (∀ m,
    (s.leaveService b).loc m = s.loc m) ∧ (∀ j, (s.leaveService b).feed j = s.feed j) ∧ (∀ j, (s.leaveService
    b).findTask j = s.findTask j) := by
  unfold leaveService
  simp

@[simp] theorem governSweep_frame (b : Fin 4) :
    (s.governSweep b).pending = s.pending ∧ (s.governSweep b).held = s.held ∧ (s.governSweep b).now = s.now ∧
    (s.governSweep b).ms0 = s.ms0 ∧ (s.governSweep b).ms1 = s.ms1 ∧ (s.governSweep b).strapMs0 = s.strapMs0 ∧
    (s.governSweep b).strapMs1 = s.strapMs1 ∧ (s.governSweep b).lcs = s.lcs ∧ (s.governSweep b).link.request =
    s.link.request ∧ (s.governSweep b).link.replies = s.link.replies ∧ (s.governSweep b).link.lastOutcome =
    s.link.lastOutcome ∧ (s.governSweep b).link.readySample = s.link.readySample ∧ (s.governSweep b).link.outbound =
    s.link.outbound ∧ (s.governSweep b).link.status = s.link.status ∧ (s.governSweep b).sessions = s.sessions ∧
    (s.governSweep b).tasks = s.tasks ∧ (s.governSweep b).closures = s.closures ∧ (s.governSweep b).locs = s.locs ∧
    (s.governSweep b).timing = s.timing ∧ (s.governSweep b).buses = s.buses ∧ (s.governSweep b).feeds = s.feeds ∧
    (s.governSweep b).notices.classes = s.notices.classes ∧ (s.governSweep b).notices.mask = s.notices.mask ∧
    (s.governSweep b).notices.transmitting = s.notices.transmitting ∧ (∀ j, (s.governSweep b).session j = s.session
    j) ∧ (∀ m, (s.governSweep b).loc m = s.loc m) ∧ (∀ j, (s.governSweep b).bus j = s.bus j) ∧ (∀ j, (s.governSweep
    b).feed j = s.feed j) ∧ (∀ j, (s.governSweep b).findTask j = s.findTask j) := by
  unfold governSweep
  simp only []
  repeat' split
  all_goals simp

@[simp] theorem flipPhase_frame (b : Fin 4) :
    (s.flipPhase b).pending = s.pending ∧ (s.flipPhase b).held = s.held ∧ (s.flipPhase b).now = s.now ∧ (s.flipPhase
    b).ms0 = s.ms0 ∧ (s.flipPhase b).ms1 = s.ms1 ∧ (s.flipPhase b).strapMs0 = s.strapMs0 ∧ (s.flipPhase b).strapMs1
    = s.strapMs1 ∧ (s.flipPhase b).lcs = s.lcs ∧ (s.flipPhase b).link = s.link ∧ (s.flipPhase b).sessions =
    s.sessions ∧ (s.flipPhase b).tasks = s.tasks ∧ (s.flipPhase b).closures = s.closures ∧ (s.flipPhase b).locs =
    s.locs ∧ (s.flipPhase b).timing = s.timing ∧ (s.flipPhase b).feeds = s.feeds ∧ (s.flipPhase b).notices =
    s.notices ∧ (∀ j, (s.flipPhase b).session j = s.session j) ∧ (∀ m, (s.flipPhase b).loc m = s.loc m) ∧ (∀ j,
    (s.flipPhase b).feed j = s.feed j) ∧ (∀ j, (s.flipPhase b).findTask j = s.findTask j) := by
  unfold flipPhase
  repeat' split
  all_goals simp

@[simp] theorem attempt_frame (l : Loc) (k : Bool) :
    (s.attempt l k).pending = s.pending ∧ (s.attempt l k).held = s.held ∧ (s.attempt l k).now = s.now ∧ (s.attempt l
    k).ms0 = s.ms0 ∧ (s.attempt l k).ms1 = s.ms1 ∧ (s.attempt l k).strapMs0 = s.strapMs0 ∧ (s.attempt l k).strapMs1
    = s.strapMs1 ∧ (s.attempt l k).lcs = s.lcs ∧ (s.attempt l k).link = s.link ∧ (s.attempt l k).sessions =
    s.sessions ∧ (s.attempt l k).tasks = s.tasks ∧ (s.attempt l k).closures = s.closures ∧ (s.attempt l k).timing =
    s.timing ∧ (s.attempt l k).feeds = s.feeds ∧ (s.attempt l k).governors = s.governors ∧ (s.attempt l k).notices =
    s.notices ∧ (∀ j, (s.attempt l k).session j = s.session j) ∧ (∀ j, (s.attempt l k).feed j = s.feed j) ∧ (∀ j,
    (s.attempt l k).governor j = s.governor j) ∧ (∀ j, (s.attempt l k).findTask j = s.findTask j) := by
  unfold attempt
  simp

@[simp] theorem closeSweep_frame (b : Fin 4) :
    (s.closeSweep b).pending = s.pending ∧ (s.closeSweep b).held = s.held ∧ (s.closeSweep b).now = s.now ∧
    (s.closeSweep b).ms0 = s.ms0 ∧ (s.closeSweep b).ms1 = s.ms1 ∧ (s.closeSweep b).strapMs0 = s.strapMs0 ∧
    (s.closeSweep b).strapMs1 = s.strapMs1 ∧ (s.closeSweep b).lcs = s.lcs ∧ (s.closeSweep b).link.request =
    s.link.request ∧ (s.closeSweep b).link.replies = s.link.replies ∧ (s.closeSweep b).link.lastOutcome =
    s.link.lastOutcome ∧ (s.closeSweep b).link.readySample = s.link.readySample ∧ (s.closeSweep b).link.outbound =
    s.link.outbound ∧ (s.closeSweep b).link.status = s.link.status ∧ (s.closeSweep b).sessions = s.sessions ∧
    (s.closeSweep b).tasks = s.tasks ∧ (s.closeSweep b).closures = s.closures ∧ (s.closeSweep b).locs = s.locs ∧
    (s.closeSweep b).timing = s.timing ∧ (s.closeSweep b).feeds = s.feeds ∧ (s.closeSweep b).governors = s.governors
    ∧ (s.closeSweep b).notices.classes = s.notices.classes ∧ (s.closeSweep b).notices.mask = s.notices.mask ∧
    (s.closeSweep b).notices.transmitting = s.notices.transmitting ∧ (∀ j, (s.closeSweep b).session j = s.session j)
    ∧ (∀ m, (s.closeSweep b).loc m = s.loc m) ∧ (∀ j, (s.closeSweep b).feed j = s.feed j) ∧ (∀ j, (s.closeSweep
    b).governor j = s.governor j) ∧ (∀ j, (s.closeSweep b).findTask j = s.findTask j) := by
  unfold closeSweep
  simp

@[simp] theorem failVisit_frame (l : Loc) :
    (s.failVisit l).pending = s.pending ∧ (s.failVisit l).held = s.held ∧ (s.failVisit l).now = s.now ∧ (s.failVisit
    l).ms0 = s.ms0 ∧ (s.failVisit l).ms1 = s.ms1 ∧ (s.failVisit l).strapMs0 = s.strapMs0 ∧ (s.failVisit l).strapMs1
    = s.strapMs1 ∧ (s.failVisit l).lcs = s.lcs ∧ (s.failVisit l).link.request = s.link.request ∧ (s.failVisit
    l).link.replies = s.link.replies ∧ (s.failVisit l).link.lastOutcome = s.link.lastOutcome ∧ (s.failVisit
    l).link.readySample = s.link.readySample ∧ (s.failVisit l).link.outbound = s.link.outbound ∧ (s.failVisit
    l).link.status = s.link.status ∧ (s.failVisit l).sessions = s.sessions ∧ (s.failVisit l).tasks = s.tasks ∧
    (s.failVisit l).closures = s.closures ∧ (s.failVisit l).timing = s.timing ∧ (s.failVisit l).buses = s.buses ∧
    (s.failVisit l).feeds = s.feeds ∧ (s.failVisit l).governors = s.governors ∧ (s.failVisit l).notices.classes =
    s.notices.classes ∧ (s.failVisit l).notices.mask = s.notices.mask ∧ (s.failVisit l).notices.transmitting =
    s.notices.transmitting ∧ (∀ j, (s.failVisit l).session j = s.session j) ∧ (∀ j, (s.failVisit l).bus j = s.bus j)
    ∧ (∀ j, (s.failVisit l).feed j = s.feed j) ∧ (∀ j, (s.failVisit l).governor j = s.governor j) ∧ (∀ j,
    (s.failVisit l).findTask j = s.findTask j) := by
  unfold failVisit
  simp only []
  split
  all_goals simp

@[simp] theorem markAbsent_frame (l : Loc) :
    (s.markAbsent l).pending = s.pending ∧ (s.markAbsent l).held = s.held ∧ (s.markAbsent l).now = s.now ∧
    (s.markAbsent l).ms0 = s.ms0 ∧ (s.markAbsent l).ms1 = s.ms1 ∧ (s.markAbsent l).strapMs0 = s.strapMs0 ∧
    (s.markAbsent l).strapMs1 = s.strapMs1 ∧ (s.markAbsent l).lcs = s.lcs ∧ (s.markAbsent l).link.request =
    s.link.request ∧ (s.markAbsent l).link.replies = s.link.replies ∧ (s.markAbsent l).link.lastOutcome =
    s.link.lastOutcome ∧ (s.markAbsent l).link.readySample = s.link.readySample ∧ (s.markAbsent l).link.outbound =
    s.link.outbound ∧ (s.markAbsent l).link.status = s.link.status ∧ (s.markAbsent l).sessions = s.sessions ∧
    (s.markAbsent l).tasks = s.tasks ∧ (s.markAbsent l).closures = s.closures ∧ (s.markAbsent l).timing = s.timing ∧
    (s.markAbsent l).buses = s.buses ∧ (s.markAbsent l).feeds = s.feeds ∧ (s.markAbsent l).governors = s.governors ∧
    (s.markAbsent l).notices.classes = s.notices.classes ∧ (s.markAbsent l).notices.mask = s.notices.mask ∧
    (s.markAbsent l).notices.transmitting = s.notices.transmitting ∧ (∀ j, (s.markAbsent l).session j = s.session j)
    ∧ (∀ j, (s.markAbsent l).bus j = s.bus j) ∧ (∀ j, (s.markAbsent l).feed j = s.feed j) ∧ (∀ j, (s.markAbsent
    l).governor j = s.governor j) ∧ (∀ j, (s.markAbsent l).findTask j = s.findTask j) := by
  unfold markAbsent
  simp only []
  split
  all_goals simp

@[simp] theorem placeTask_frame (t : Task) :
    (s.placeTask t).pending = s.pending ∧ (s.placeTask t).held = s.held ∧ (s.placeTask t).now = s.now ∧ (s.placeTask
    t).ms0 = s.ms0 ∧ (s.placeTask t).ms1 = s.ms1 ∧ (s.placeTask t).strapMs0 = s.strapMs0 ∧ (s.placeTask t).strapMs1
    = s.strapMs1 ∧ (s.placeTask t).lcs = s.lcs ∧ (s.placeTask t).link = s.link ∧ (s.placeTask t).sessions =
    s.sessions ∧ (s.placeTask t).closures = s.closures ∧ (s.placeTask t).timing = s.timing ∧ (s.placeTask t).buses =
    s.buses ∧ (s.placeTask t).feeds = s.feeds ∧ (s.placeTask t).governors = s.governors ∧ (s.placeTask t).notices =
    s.notices ∧ (∀ j, (s.placeTask t).session j = s.session j) ∧ (∀ j, (s.placeTask t).bus j = s.bus j) ∧ (∀ j,
    (s.placeTask t).feed j = s.feed j) ∧ (∀ j, (s.placeTask t).governor j = s.governor j) := by
  unfold placeTask
  simp only []
  split
  all_goals
    simp [session_mk, bus_mk, feed_mk, governor_mk, getElem_sessions, getElem_buses, getElem_feeds, getElem_governors]

@[simp] theorem supersede_frame (t : Task) :
    (s.supersede t).pending = s.pending ∧ (s.supersede t).held = s.held ∧ (s.supersede t).now = s.now ∧ (s.supersede
    t).ms0 = s.ms0 ∧ (s.supersede t).ms1 = s.ms1 ∧ (s.supersede t).strapMs0 = s.strapMs0 ∧ (s.supersede t).strapMs1
    = s.strapMs1 ∧ (s.supersede t).lcs = s.lcs ∧ (s.supersede t).link.request = s.link.request ∧ (s.supersede
    t).link.replies = s.link.replies ∧ (s.supersede t).link.lastOutcome = s.link.lastOutcome ∧ (s.supersede
    t).link.readySample = s.link.readySample ∧ (s.supersede t).link.outbound = s.link.outbound ∧ (s.supersede
    t).link.status = s.link.status ∧ (s.supersede t).tasks = s.tasks ∧ (s.supersede t).closures = s.closures ∧
    (s.supersede t).locs = s.locs ∧ (s.supersede t).timing = s.timing ∧ (s.supersede t).buses = s.buses ∧
    (s.supersede t).feeds = s.feeds ∧ (s.supersede t).governors = s.governors ∧ (s.supersede t).notices.classes =
    s.notices.classes ∧ (s.supersede t).notices.mask = s.notices.mask ∧ (s.supersede t).notices.transmitting =
    s.notices.transmitting ∧ (∀ m, (s.supersede t).loc m = s.loc m) ∧ (∀ j, (s.supersede t).bus j = s.bus j) ∧ (∀ j,
    (s.supersede t).feed j = s.feed j) ∧ (∀ j, (s.supersede t).governor j = s.governor j) ∧ (∀ j, (s.supersede
    t).findTask j = s.findTask j) := by
  unfold supersede
  simp

@[simp] theorem splice_frame (t : Task) :
    (s.splice t).pending = s.pending ∧ (s.splice t).held = s.held ∧ (s.splice t).now = s.now ∧ (s.splice t).ms0 =
    s.ms0 ∧ (s.splice t).ms1 = s.ms1 ∧ (s.splice t).strapMs0 = s.strapMs0 ∧ (s.splice t).strapMs1 = s.strapMs1 ∧
    (s.splice t).lcs = s.lcs ∧ (s.splice t).link = s.link ∧ (s.splice t).sessions = s.sessions ∧ (s.splice
    t).closures = s.closures ∧ (s.splice t).locs = s.locs ∧ (s.splice t).timing = s.timing ∧ (s.splice t).buses =
    s.buses ∧ (s.splice t).feeds = s.feeds ∧ (s.splice t).governors = s.governors ∧ (s.splice t).notices = s.notices
    ∧ (∀ j, (s.splice t).session j = s.session j) ∧ (∀ m, (s.splice t).loc m = s.loc m) ∧ (∀ j, (s.splice t).bus j =
    s.bus j) ∧ (∀ j, (s.splice t).feed j = s.feed j) ∧ (∀ j, (s.splice t).governor j = s.governor j) := by
  unfold splice
  simp only []
  repeat' split
  all_goals simp

@[simp] theorem cutBefore_frame (t : Task) :
    (s.cutBefore t).pending = s.pending ∧ (s.cutBefore t).held = s.held ∧ (s.cutBefore t).now = s.now ∧ (s.cutBefore
    t).ms0 = s.ms0 ∧ (s.cutBefore t).ms1 = s.ms1 ∧ (s.cutBefore t).strapMs0 = s.strapMs0 ∧ (s.cutBefore t).strapMs1
    = s.strapMs1 ∧ (s.cutBefore t).lcs = s.lcs ∧ (s.cutBefore t).link = s.link ∧ (s.cutBefore t).sessions =
    s.sessions ∧ (s.cutBefore t).closures = s.closures ∧ (s.cutBefore t).locs = s.locs ∧ (s.cutBefore t).timing =
    s.timing ∧ (s.cutBefore t).buses = s.buses ∧ (s.cutBefore t).feeds = s.feeds ∧ (s.cutBefore t).governors =
    s.governors ∧ (s.cutBefore t).notices = s.notices ∧ (∀ j, (s.cutBefore t).session j = s.session j) ∧ (∀ m,
    (s.cutBefore t).loc m = s.loc m) ∧ (∀ j, (s.cutBefore t).bus j = s.bus j) ∧ (∀ j, (s.cutBefore t).feed j =
    s.feed j) ∧ (∀ j, (s.cutBefore t).governor j = s.governor j) := by
  unfold cutBefore
  split
  all_goals simp

@[simp] theorem recordSample_frame (b : Fin 4) (n : Nat) :
    (s.recordSample b n).pending = s.pending ∧ (s.recordSample b n).held = s.held ∧ (s.recordSample b n).now = s.now
    ∧ (s.recordSample b n).ms0 = s.ms0 ∧ (s.recordSample b n).ms1 = s.ms1 ∧ (s.recordSample b n).strapMs0 =
    s.strapMs0 ∧ (s.recordSample b n).strapMs1 = s.strapMs1 ∧ (s.recordSample b n).lcs = s.lcs ∧ (s.recordSample b
    n).link.request = s.link.request ∧ (s.recordSample b n).link.replies = s.link.replies ∧ (s.recordSample b
    n).link.lastOutcome = s.link.lastOutcome ∧ (s.recordSample b n).link.readySample = s.link.readySample ∧
    (s.recordSample b n).link.outbound = s.link.outbound ∧ (s.recordSample b n).link.status = s.link.status ∧
    (s.recordSample b n).sessions = s.sessions ∧ (s.recordSample b n).tasks = s.tasks ∧ (s.recordSample b
    n).closures = s.closures ∧ (s.recordSample b n).locs = s.locs ∧ (s.recordSample b n).timing = s.timing ∧
    (s.recordSample b n).buses = s.buses ∧ (s.recordSample b n).governors = s.governors ∧ (s.recordSample b
    n).notices.classes = s.notices.classes ∧ (s.recordSample b n).notices.mask = s.notices.mask ∧ (s.recordSample b
    n).notices.transmitting = s.notices.transmitting ∧ (∀ j, (s.recordSample b n).session j = s.session j) ∧ (∀ m,
    (s.recordSample b n).loc m = s.loc m) ∧ (∀ j, (s.recordSample b n).bus j = s.bus j) ∧ (∀ j, (s.recordSample b
    n).governor j = s.governor j) ∧ (∀ j, (s.recordSample b n).findTask j = s.findTask j) := by
  unfold recordSample
  simp only []
  split
  all_goals simp

@[simp] theorem declareBrownout_frame (b : Fin 4) :
    (s.declareBrownout b).pending = s.pending ∧ (s.declareBrownout b).held = s.held ∧ (s.declareBrownout b).now =
    s.now ∧ (s.declareBrownout b).ms0 = s.ms0 ∧ (s.declareBrownout b).ms1 = s.ms1 ∧ (s.declareBrownout b).strapMs0 =
    s.strapMs0 ∧ (s.declareBrownout b).strapMs1 = s.strapMs1 ∧ (s.declareBrownout b).lcs = s.lcs ∧
    (s.declareBrownout b).link.request = s.link.request ∧ (s.declareBrownout b).link.replies = s.link.replies ∧
    (s.declareBrownout b).link.lastOutcome = s.link.lastOutcome ∧ (s.declareBrownout b).link.readySample =
    s.link.readySample ∧ (s.declareBrownout b).link.outbound = s.link.outbound ∧ (s.declareBrownout b).link.status =
    s.link.status ∧ (s.declareBrownout b).sessions = s.sessions ∧ (s.declareBrownout b).tasks = s.tasks ∧
    (s.declareBrownout b).closures = s.closures ∧ (s.declareBrownout b).timing = s.timing ∧ (s.declareBrownout
    b).notices.classes = s.notices.classes ∧ (s.declareBrownout b).notices.mask = s.notices.mask ∧
    (s.declareBrownout b).notices.transmitting = s.notices.transmitting ∧ (∀ j, (s.declareBrownout b).session j =
    s.session j) ∧ (∀ j, (s.declareBrownout b).findTask j = s.findTask j) := by
  unfold declareBrownout
  simp

@[simp] theorem recover_frame (b : Fin 4) (n : Nat) :
    (s.recover b n).pending = s.pending ∧ (s.recover b n).held = s.held ∧ (s.recover b n).now = s.now ∧ (s.recover b
    n).ms0 = s.ms0 ∧ (s.recover b n).ms1 = s.ms1 ∧ (s.recover b n).strapMs0 = s.strapMs0 ∧ (s.recover b n).strapMs1
    = s.strapMs1 ∧ (s.recover b n).lcs = s.lcs ∧ (s.recover b n).link.request = s.link.request ∧ (s.recover b
    n).link.replies = s.link.replies ∧ (s.recover b n).link.lastOutcome = s.link.lastOutcome ∧ (s.recover b
    n).link.readySample = s.link.readySample ∧ (s.recover b n).link.outbound = s.link.outbound ∧ (s.recover b
    n).link.status = s.link.status ∧ (s.recover b n).sessions = s.sessions ∧ (s.recover b n).tasks = s.tasks ∧
    (s.recover b n).closures = s.closures ∧ (s.recover b n).locs = s.locs ∧ (s.recover b n).timing = s.timing ∧
    (s.recover b n).governors = s.governors ∧ (s.recover b n).notices.classes = s.notices.classes ∧ (s.recover b
    n).notices.mask = s.notices.mask ∧ (s.recover b n).notices.transmitting = s.notices.transmitting ∧ (∀ j,
    (s.recover b n).session j = s.session j) ∧ (∀ m, (s.recover b n).loc m = s.loc m) ∧ (∀ j, (s.recover b
    n).governor j = s.governor j) ∧ (∀ j, (s.recover b n).findTask j = s.findTask j) := by
  unfold recover
  simp only []
  split
  all_goals simp

@[simp] theorem supplyCheck_frame (b : Fin 4) (n : Nat) :
    (s.supplyCheck b n).pending = s.pending ∧ (s.supplyCheck b n).held = s.held ∧ (s.supplyCheck b n).now = s.now ∧
    (s.supplyCheck b n).ms0 = s.ms0 ∧ (s.supplyCheck b n).ms1 = s.ms1 ∧ (s.supplyCheck b n).strapMs0 = s.strapMs0 ∧
    (s.supplyCheck b n).strapMs1 = s.strapMs1 ∧ (s.supplyCheck b n).lcs = s.lcs ∧ (s.supplyCheck b n).link.request =
    s.link.request ∧ (s.supplyCheck b n).link.replies = s.link.replies ∧ (s.supplyCheck b n).link.lastOutcome =
    s.link.lastOutcome ∧ (s.supplyCheck b n).link.readySample = s.link.readySample ∧ (s.supplyCheck b
    n).link.outbound = s.link.outbound ∧ (s.supplyCheck b n).link.status = s.link.status ∧ (s.supplyCheck b
    n).sessions = s.sessions ∧ (s.supplyCheck b n).tasks = s.tasks ∧ (s.supplyCheck b n).closures = s.closures ∧
    (s.supplyCheck b n).timing = s.timing ∧ (s.supplyCheck b n).notices.classes = s.notices.classes ∧ (s.supplyCheck
    b n).notices.mask = s.notices.mask ∧ (s.supplyCheck b n).notices.transmitting = s.notices.transmitting ∧ (∀ j,
    (s.supplyCheck b n).session j = s.session j) ∧ (∀ j, (s.supplyCheck b n).findTask j = s.findTask j) := by
  unfold supplyCheck
  repeat' split
  all_goals simp

@[simp] theorem completeSample_frame (b : Fin 4) (t : Instant) (n : Nat) :
    (s.completeSample b t n).pending = s.pending ∧ (s.completeSample b t n).held = s.held ∧ (s.completeSample b t
    n).now = s.now ∧ (s.completeSample b t n).ms0 = s.ms0 ∧ (s.completeSample b t n).ms1 = s.ms1 ∧ (s.completeSample
    b t n).strapMs0 = s.strapMs0 ∧ (s.completeSample b t n).strapMs1 = s.strapMs1 ∧ (s.completeSample b t n).lcs =
    s.lcs ∧ (s.completeSample b t n).link.request = s.link.request ∧ (s.completeSample b t n).link.replies =
    s.link.replies ∧ (s.completeSample b t n).link.lastOutcome = s.link.lastOutcome ∧ (s.completeSample b t
    n).link.readySample = s.link.readySample ∧ (s.completeSample b t n).link.outbound = s.link.outbound ∧
    (s.completeSample b t n).link.status = s.link.status ∧ (s.completeSample b t n).sessions = s.sessions ∧
    (s.completeSample b t n).tasks = s.tasks ∧ (s.completeSample b t n).closures = s.closures ∧ (s.completeSample b
    t n).timing = s.timing ∧ (s.completeSample b t n).notices.classes = s.notices.classes ∧ (s.completeSample b t
    n).notices.mask = s.notices.mask ∧ (s.completeSample b t n).notices.transmitting = s.notices.transmitting ∧ (∀
    j, (s.completeSample b t n).session j = s.session j) ∧ (∀ j, (s.completeSample b t n).findTask j = s.findTask j) := by
  unfold completeSample
  simp

end Sys2Proof.Machine.State
end

