-- ==== Sys2Proof/Laws/Requests.lean ====
section
/-! SUPPORT. What each request leaves as it was. -/

namespace Sys2Proof.Machine.State

variable (s : State)

@[simp] theorem refuse_fst (k : Nat) (r : Reason) (fs : List Field) : (s.refuse k r fs).1 = s := rfl

@[simp] theorem endHoldsOf_frame (i : Fin 8) :
    (s.endHoldsOf i).pending = s.pending ∧ (s.endHoldsOf i).held = s.held ∧ (s.endHoldsOf i).now = s.now ∧
    (s.endHoldsOf i).ms0 = s.ms0 ∧ (s.endHoldsOf i).ms1 = s.ms1 ∧ (s.endHoldsOf i).strapMs0 = s.strapMs0 ∧
    (s.endHoldsOf i).strapMs1 = s.strapMs1 ∧ (s.endHoldsOf i).lcs = s.lcs ∧ (s.endHoldsOf i).link = s.link ∧
    (s.endHoldsOf i).sessions = s.sessions ∧ (s.endHoldsOf i).tasks = s.tasks ∧ (s.endHoldsOf i).closures =
    s.closures ∧ (s.endHoldsOf i).timing = s.timing ∧ (s.endHoldsOf i).buses = s.buses ∧ (s.endHoldsOf i).feeds =
    s.feeds ∧ (s.endHoldsOf i).governors = s.governors ∧ (s.endHoldsOf i).notices = s.notices ∧ (∀ j, (s.endHoldsOf
    i).session j = s.session j) ∧ (∀ j, (s.endHoldsOf i).bus j = s.bus j) ∧ (∀ j, (s.endHoldsOf i).feed j = s.feed
    j) ∧ (∀ j, (s.endHoldsOf i).governor j = s.governor j) ∧ (∀ j, (s.endHoldsOf i).findTask j = s.findTask j) := by
  unfold endHoldsOf
  simp

@[simp] theorem endLingersOf_frame (i : Fin 8) :
    (s.endLingersOf i).pending = s.pending ∧ (s.endLingersOf i).held = s.held ∧ (s.endLingersOf i).now = s.now ∧
    (s.endLingersOf i).ms0 = s.ms0 ∧ (s.endLingersOf i).ms1 = s.ms1 ∧ (s.endLingersOf i).strapMs0 = s.strapMs0 ∧
    (s.endLingersOf i).strapMs1 = s.strapMs1 ∧ (s.endLingersOf i).lcs = s.lcs ∧ (s.endLingersOf i).link = s.link ∧
    (s.endLingersOf i).sessions = s.sessions ∧ (s.endLingersOf i).tasks = s.tasks ∧ (s.endLingersOf i).closures =
    s.closures ∧ (s.endLingersOf i).timing = s.timing ∧ (s.endLingersOf i).buses = s.buses ∧ (s.endLingersOf
    i).feeds = s.feeds ∧ (s.endLingersOf i).governors = s.governors ∧ (s.endLingersOf i).notices = s.notices ∧ (∀ j,
    (s.endLingersOf i).session j = s.session j) ∧ (∀ j, (s.endLingersOf i).bus j = s.bus j) ∧ (∀ j, (s.endLingersOf
    i).feed j = s.feed j) ∧ (∀ j, (s.endLingersOf i).governor j = s.governor j) ∧ (∀ j, (s.endLingersOf i).findTask
    j = s.findTask j) := by
  unfold endLingersOf
  simp

@[simp] theorem freeTasks_frame (ts : List Task) :
    (ts.foldl State.freeTask s).pending = s.pending ∧ (ts.foldl State.freeTask s).held = s.held ∧ (ts.foldl
    State.freeTask s).now = s.now ∧ (ts.foldl State.freeTask s).ms0 = s.ms0 ∧ (ts.foldl State.freeTask s).ms1 =
    s.ms1 ∧ (ts.foldl State.freeTask s).strapMs0 = s.strapMs0 ∧ (ts.foldl State.freeTask s).strapMs1 = s.strapMs1 ∧
    (ts.foldl State.freeTask s).lcs = s.lcs ∧ (ts.foldl State.freeTask s).link = s.link ∧ (ts.foldl State.freeTask
    s).closures = s.closures ∧ (ts.foldl State.freeTask s).timing = s.timing ∧ (ts.foldl State.freeTask s).buses =
    s.buses ∧ (ts.foldl State.freeTask s).feeds = s.feeds ∧ (ts.foldl State.freeTask s).governors = s.governors ∧
    (ts.foldl State.freeTask s).notices = s.notices ∧ (∀ j, (ts.foldl State.freeTask s).bus j = s.bus j) ∧ (∀ j,
    (ts.foldl State.freeTask s).feed j = s.feed j) ∧ (∀ j, (ts.foldl State.freeTask s).governor j = s.governor j) := by
  induction ts generalizing s with
  | nil => simp
  | cons t ts ih => simp [ih]

@[simp] theorem startEnrol_frame (b : Fin 4) :
    (s.startEnrol b).pending = s.pending ∧ (s.startEnrol b).held = s.held ∧ (s.startEnrol b).now = s.now ∧
    (s.startEnrol b).ms0 = s.ms0 ∧ (s.startEnrol b).ms1 = s.ms1 ∧ (s.startEnrol b).strapMs0 = s.strapMs0 ∧
    (s.startEnrol b).strapMs1 = s.strapMs1 ∧ (s.startEnrol b).lcs = s.lcs ∧ (s.startEnrol b).link = s.link ∧
    (s.startEnrol b).sessions = s.sessions ∧ (s.startEnrol b).tasks = s.tasks ∧ (s.startEnrol b).closures =
    s.closures ∧ (s.startEnrol b).locs = s.locs ∧ (s.startEnrol b).timing = s.timing ∧ (s.startEnrol b).feeds =
    s.feeds ∧ (s.startEnrol b).notices = s.notices ∧ (∀ j, (s.startEnrol b).session j = s.session j) ∧ (∀ m,
    (s.startEnrol b).loc m = s.loc m) ∧ (∀ j, (s.startEnrol b).feed j = s.feed j) ∧ (∀ j, (s.startEnrol b).findTask
    j = s.findTask j) := by
  unfold startEnrol
  simp only []
  split
  all_goals simp

@[simp] theorem enterResetting_frame (b : Fin 4) :
    (s.enterResetting b).pending = s.pending ∧ (s.enterResetting b).held = s.held ∧ (s.enterResetting b).now = s.now
    ∧ (s.enterResetting b).ms0 = s.ms0 ∧ (s.enterResetting b).ms1 = s.ms1 ∧ (s.enterResetting b).strapMs0 =
    s.strapMs0 ∧ (s.enterResetting b).strapMs1 = s.strapMs1 ∧ (s.enterResetting b).lcs = s.lcs ∧ (s.enterResetting
    b).link = s.link ∧ (s.enterResetting b).sessions = s.sessions ∧ (s.enterResetting b).tasks = s.tasks ∧
    (s.enterResetting b).closures = s.closures ∧ (s.enterResetting b).locs = s.locs ∧ (s.enterResetting b).timing =
    s.timing ∧ (s.enterResetting b).notices = s.notices ∧ (∀ j, (s.enterResetting b).session j = s.session j) ∧ (∀
    m, (s.enterResetting b).loc m = s.loc m) ∧ (∀ j, (s.enterResetting b).findTask j = s.findTask j) := by
  unfold enterResetting
  simp

@[simp] theorem clearBus_frame (b : Fin 4) :
    (s.clearBus b).pending = s.pending ∧ (s.clearBus b).held = s.held ∧ (s.clearBus b).now = s.now ∧ (s.clearBus
    b).ms0 = s.ms0 ∧ (s.clearBus b).ms1 = s.ms1 ∧ (s.clearBus b).strapMs0 = s.strapMs0 ∧ (s.clearBus b).strapMs1 =
    s.strapMs1 ∧ (s.clearBus b).lcs = s.lcs ∧ (s.clearBus b).link = s.link ∧ (s.clearBus b).sessions = s.sessions ∧
    (s.clearBus b).tasks = s.tasks ∧ (s.clearBus b).closures = s.closures ∧ (s.clearBus b).locs = s.locs ∧
    (s.clearBus b).timing = s.timing ∧ (s.clearBus b).notices = s.notices ∧ (∀ j, (s.clearBus b).session j =
    s.session j) ∧ (∀ m, (s.clearBus b).loc m = s.loc m) ∧ (∀ j, (s.clearBus b).findTask j = s.findTask j) := by
  unfold clearBus
  simp

@[simp] theorem applyEntry_frame (i : Fin 8) (e : PendingEntry) :
    ((s.applyEntry i e).1).pending = s.pending ∧ ((s.applyEntry i e).1).held = s.held ∧ ((s.applyEntry i e).1).now =
    s.now ∧ ((s.applyEntry i e).1).ms0 = s.ms0 ∧ ((s.applyEntry i e).1).ms1 = s.ms1 ∧ ((s.applyEntry i
    e).1).strapMs0 = s.strapMs0 ∧ ((s.applyEntry i e).1).strapMs1 = s.strapMs1 ∧ ((s.applyEntry i e).1).lcs = s.lcs
    ∧ ((s.applyEntry i e).1).link.request = s.link.request ∧ ((s.applyEntry i e).1).link.replies = s.link.replies ∧
    ((s.applyEntry i e).1).link.lastOutcome = s.link.lastOutcome ∧ ((s.applyEntry i e).1).link.readySample =
    s.link.readySample ∧ ((s.applyEntry i e).1).link.outbound = s.link.outbound ∧ ((s.applyEntry i e).1).link.status
    = s.link.status ∧ ((s.applyEntry i e).1).sessions = s.sessions ∧ ((s.applyEntry i e).1).timing = s.timing ∧
    ((s.applyEntry i e).1).buses = s.buses ∧ ((s.applyEntry i e).1).feeds = s.feeds ∧ ((s.applyEntry i
    e).1).governors = s.governors ∧ ((s.applyEntry i e).1).notices.classes = s.notices.classes ∧ ((s.applyEntry i
    e).1).notices.mask = s.notices.mask ∧ ((s.applyEntry i e).1).notices.transmitting = s.notices.transmitting ∧ (∀
    j, ((s.applyEntry i e).1).session j = s.session j) ∧ (∀ j, ((s.applyEntry i e).1).bus j = s.bus j) ∧ (∀ j,
    ((s.applyEntry i e).1).feed j = s.feed j) ∧ (∀ j, ((s.applyEntry i e).1).governor j = s.governor j) := by
  unfold applyEntry
  repeat' split
  all_goals simp

@[simp] theorem applyEntries_frame (i : Fin 8) (es : List PendingEntry) :
    ((s.applyEntries i es).1).pending = s.pending ∧ ((s.applyEntries i es).1).held = s.held ∧ ((s.applyEntries i
    es).1).now = s.now ∧ ((s.applyEntries i es).1).ms0 = s.ms0 ∧ ((s.applyEntries i es).1).ms1 = s.ms1 ∧
    ((s.applyEntries i es).1).strapMs0 = s.strapMs0 ∧ ((s.applyEntries i es).1).strapMs1 = s.strapMs1 ∧
    ((s.applyEntries i es).1).lcs = s.lcs ∧ ((s.applyEntries i es).1).link.request = s.link.request ∧
    ((s.applyEntries i es).1).link.replies = s.link.replies ∧ ((s.applyEntries i es).1).link.lastOutcome =
    s.link.lastOutcome ∧ ((s.applyEntries i es).1).link.readySample = s.link.readySample ∧ ((s.applyEntries i
    es).1).link.outbound = s.link.outbound ∧ ((s.applyEntries i es).1).link.status = s.link.status ∧
    ((s.applyEntries i es).1).sessions = s.sessions ∧ ((s.applyEntries i es).1).timing = s.timing ∧ ((s.applyEntries
    i es).1).buses = s.buses ∧ ((s.applyEntries i es).1).feeds = s.feeds ∧ ((s.applyEntries i es).1).governors =
    s.governors ∧ ((s.applyEntries i es).1).notices.classes = s.notices.classes ∧ ((s.applyEntries i
    es).1).notices.mask = s.notices.mask ∧ ((s.applyEntries i es).1).notices.transmitting = s.notices.transmitting ∧
    (∀ j, ((s.applyEntries i es).1).session j = s.session j) ∧ (∀ j, ((s.applyEntries i es).1).bus j = s.bus j) ∧ (∀
    j, ((s.applyEntries i es).1).feed j = s.feed j) ∧ (∀ j, ((s.applyEntries i es).1).governor j = s.governor j) := by
  induction es generalizing s with
  | nil => simp [applyEntries]
  | cons e es ih => simp [applyEntries, ih]

@[simp] theorem withdrawOne_frame (t : Task) :
    (s.withdrawOne t).pending = s.pending ∧ (s.withdrawOne t).held = s.held ∧ (s.withdrawOne t).now = s.now ∧
    (s.withdrawOne t).ms0 = s.ms0 ∧ (s.withdrawOne t).ms1 = s.ms1 ∧ (s.withdrawOne t).strapMs0 = s.strapMs0 ∧
    (s.withdrawOne t).strapMs1 = s.strapMs1 ∧ (s.withdrawOne t).lcs = s.lcs ∧ (s.withdrawOne t).link = s.link ∧
    (s.withdrawOne t).closures = s.closures ∧ (s.withdrawOne t).timing = s.timing ∧ (s.withdrawOne t).buses =
    s.buses ∧ (s.withdrawOne t).feeds = s.feeds ∧ (s.withdrawOne t).governors = s.governors ∧ (s.withdrawOne
    t).notices = s.notices ∧ (∀ j, (s.withdrawOne t).bus j = s.bus j) ∧ (∀ j, (s.withdrawOne t).feed j = s.feed j) ∧
    (∀ j, (s.withdrawOne t).governor j = s.governor j) := by
  unfold withdrawOne
  simp

@[simp] theorem unknownRequest_frame (k : Nat) :
    ((s.unknownRequest k).1).pending = s.pending ∧ ((s.unknownRequest k).1).held = s.held ∧ ((s.unknownRequest
    k).1).now = s.now ∧ ((s.unknownRequest k).1).ms0 = s.ms0 ∧ ((s.unknownRequest k).1).ms1 = s.ms1 ∧
    ((s.unknownRequest k).1).strapMs0 = s.strapMs0 ∧ ((s.unknownRequest k).1).strapMs1 = s.strapMs1 ∧
    ((s.unknownRequest k).1).lcs = s.lcs ∧ ((s.unknownRequest k).1).link = s.link ∧ ((s.unknownRequest
    k).1).sessions = s.sessions ∧ ((s.unknownRequest k).1).tasks = s.tasks ∧ ((s.unknownRequest k).1).closures =
    s.closures ∧ ((s.unknownRequest k).1).locs = s.locs ∧ ((s.unknownRequest k).1).timing = s.timing ∧
    ((s.unknownRequest k).1).buses = s.buses ∧ ((s.unknownRequest k).1).feeds = s.feeds ∧ ((s.unknownRequest
    k).1).governors = s.governors ∧ ((s.unknownRequest k).1).notices = s.notices ∧ (∀ j, ((s.unknownRequest
    k).1).session j = s.session j) ∧ (∀ m, ((s.unknownRequest k).1).loc m = s.loc m) ∧ (∀ j, ((s.unknownRequest
    k).1).bus j = s.bus j) ∧ (∀ j, ((s.unknownRequest k).1).feed j = s.feed j) ∧ (∀ j, ((s.unknownRequest
    k).1).governor j = s.governor j) ∧ (∀ j, ((s.unknownRequest k).1).findTask j = s.findTask j) := by
  unfold unknownRequest
  simp

@[simp] theorem badLength_frame (k r : Nat) :
    ((s.badLength k r).1).pending = s.pending ∧ ((s.badLength k r).1).held = s.held ∧ ((s.badLength k r).1).now =
    s.now ∧ ((s.badLength k r).1).ms0 = s.ms0 ∧ ((s.badLength k r).1).ms1 = s.ms1 ∧ ((s.badLength k r).1).strapMs0 =
    s.strapMs0 ∧ ((s.badLength k r).1).strapMs1 = s.strapMs1 ∧ ((s.badLength k r).1).lcs = s.lcs ∧ ((s.badLength k
    r).1).link = s.link ∧ ((s.badLength k r).1).sessions = s.sessions ∧ ((s.badLength k r).1).tasks = s.tasks ∧
    ((s.badLength k r).1).closures = s.closures ∧ ((s.badLength k r).1).locs = s.locs ∧ ((s.badLength k r).1).timing
    = s.timing ∧ ((s.badLength k r).1).buses = s.buses ∧ ((s.badLength k r).1).feeds = s.feeds ∧ ((s.badLength k
    r).1).governors = s.governors ∧ ((s.badLength k r).1).notices = s.notices ∧ (∀ j, ((s.badLength k r).1).session
    j = s.session j) ∧ (∀ m, ((s.badLength k r).1).loc m = s.loc m) ∧ (∀ j, ((s.badLength k r).1).bus j = s.bus j) ∧
    (∀ j, ((s.badLength k r).1).feed j = s.feed j) ∧ (∀ j, ((s.badLength k r).1).governor j = s.governor j) ∧ (∀ j,
    ((s.badLength k r).1).findTask j = s.findTask j) := by
  unfold badLength
  simp

@[simp] theorem partStatus_frame  :
    (s.partStatus.1).pending = s.pending ∧ (s.partStatus.1).held = s.held ∧ (s.partStatus.1).now = s.now ∧
    (s.partStatus.1).ms0 = s.ms0 ∧ (s.partStatus.1).ms1 = s.ms1 ∧ (s.partStatus.1).strapMs0 = s.strapMs0 ∧
    (s.partStatus.1).strapMs1 = s.strapMs1 ∧ (s.partStatus.1).lcs = s.lcs ∧ (s.partStatus.1).link = s.link ∧
    (s.partStatus.1).sessions = s.sessions ∧ (s.partStatus.1).tasks = s.tasks ∧ (s.partStatus.1).closures =
    s.closures ∧ (s.partStatus.1).locs = s.locs ∧ (s.partStatus.1).timing = s.timing ∧ (s.partStatus.1).buses =
    s.buses ∧ (s.partStatus.1).feeds = s.feeds ∧ (s.partStatus.1).governors = s.governors ∧ (s.partStatus.1).notices
    = s.notices ∧ (∀ j, (s.partStatus.1).session j = s.session j) ∧ (∀ m, (s.partStatus.1).loc m = s.loc m) ∧ (∀ j,
    (s.partStatus.1).bus j = s.bus j) ∧ (∀ j, (s.partStatus.1).feed j = s.feed j) ∧ (∀ j, (s.partStatus.1).governor
    j = s.governor j) ∧ (∀ j, (s.partStatus.1).findTask j = s.findTask j) := by
  unfold partStatus
  simp

@[simp] theorem setClass_frame (c p : Nat) :
    ((s.setClass c p).1).pending = s.pending ∧ ((s.setClass c p).1).held = s.held ∧ ((s.setClass c p).1).now = s.now
    ∧ ((s.setClass c p).1).ms0 = s.ms0 ∧ ((s.setClass c p).1).ms1 = s.ms1 ∧ ((s.setClass c p).1).strapMs0 =
    s.strapMs0 ∧ ((s.setClass c p).1).strapMs1 = s.strapMs1 ∧ ((s.setClass c p).1).lcs = s.lcs ∧ ((s.setClass c
    p).1).link = s.link ∧ ((s.setClass c p).1).sessions = s.sessions ∧ ((s.setClass c p).1).tasks = s.tasks ∧
    ((s.setClass c p).1).closures = s.closures ∧ ((s.setClass c p).1).locs = s.locs ∧ ((s.setClass c p).1).timing =
    s.timing ∧ ((s.setClass c p).1).buses = s.buses ∧ ((s.setClass c p).1).feeds = s.feeds ∧ ((s.setClass c
    p).1).governors = s.governors ∧ ((s.setClass c p).1).notices.entries = s.notices.entries ∧ ((s.setClass c
    p).1).notices.lost = s.notices.lost ∧ ((s.setClass c p).1).notices.transmitting = s.notices.transmitting ∧
    ((s.setClass c p).1).notices.nextAge = s.notices.nextAge ∧ (∀ j, ((s.setClass c p).1).session j = s.session j) ∧
    (∀ m, ((s.setClass c p).1).loc m = s.loc m) ∧ (∀ j, ((s.setClass c p).1).bus j = s.bus j) ∧ (∀ j, ((s.setClass c
    p).1).feed j = s.feed j) ∧ (∀ j, ((s.setClass c p).1).governor j = s.governor j) ∧ (∀ j, ((s.setClass c
    p).1).findTask j = s.findTask j) := by
  unfold setClass
  simp only []
  repeat' split
  all_goals
    simp [session_mk, bus_mk, feed_mk, governor_mk, loc_mk, findTask_mk, getElem_sessions, getElem_buses,
      getElem_feeds, getElem_governors, getElem_locs, find_tasks]

@[simp] theorem setMask_frame (l : Nat) :
    ((s.setMask l).1).pending = s.pending ∧ ((s.setMask l).1).held = s.held ∧ ((s.setMask l).1).now = s.now ∧
    ((s.setMask l).1).ms0 = s.ms0 ∧ ((s.setMask l).1).ms1 = s.ms1 ∧ ((s.setMask l).1).strapMs0 = s.strapMs0 ∧
    ((s.setMask l).1).strapMs1 = s.strapMs1 ∧ ((s.setMask l).1).lcs = s.lcs ∧ ((s.setMask l).1).link = s.link ∧
    ((s.setMask l).1).sessions = s.sessions ∧ ((s.setMask l).1).tasks = s.tasks ∧ ((s.setMask l).1).closures =
    s.closures ∧ ((s.setMask l).1).locs = s.locs ∧ ((s.setMask l).1).timing = s.timing ∧ ((s.setMask l).1).buses =
    s.buses ∧ ((s.setMask l).1).feeds = s.feeds ∧ ((s.setMask l).1).governors = s.governors ∧ ((s.setMask
    l).1).notices.entries = s.notices.entries ∧ ((s.setMask l).1).notices.lost = s.notices.lost ∧ ((s.setMask
    l).1).notices.transmitting = s.notices.transmitting ∧ ((s.setMask l).1).notices.nextAge = s.notices.nextAge ∧ (∀
    j, ((s.setMask l).1).session j = s.session j) ∧ (∀ m, ((s.setMask l).1).loc m = s.loc m) ∧ (∀ j, ((s.setMask
    l).1).bus j = s.bus j) ∧ (∀ j, ((s.setMask l).1).feed j = s.feed j) ∧ (∀ j, ((s.setMask l).1).governor j =
    s.governor j) ∧ (∀ j, ((s.setMask l).1).findTask j = s.findTask j) := by
  unfold setMask
  simp [session_mk, bus_mk, feed_mk, governor_mk, loc_mk, findTask_mk, getElem_sessions, getElem_buses,
      getElem_feeds, getElem_governors, getElem_locs, find_tasks]

@[simp] theorem setTiming_frame (a b c d e : Nat) :
    ((s.setTiming a b c d e).1).pending = s.pending ∧ ((s.setTiming a b c d e).1).held = s.held ∧ ((s.setTiming a b
    c d e).1).now = s.now ∧ ((s.setTiming a b c d e).1).ms0 = s.ms0 ∧ ((s.setTiming a b c d e).1).ms1 = s.ms1 ∧
    ((s.setTiming a b c d e).1).strapMs0 = s.strapMs0 ∧ ((s.setTiming a b c d e).1).strapMs1 = s.strapMs1 ∧
    ((s.setTiming a b c d e).1).lcs = s.lcs ∧ ((s.setTiming a b c d e).1).link = s.link ∧ ((s.setTiming a b c d
    e).1).sessions = s.sessions ∧ ((s.setTiming a b c d e).1).tasks = s.tasks ∧ ((s.setTiming a b c d e).1).closures
    = s.closures ∧ ((s.setTiming a b c d e).1).locs = s.locs ∧ ((s.setTiming a b c d e).1).buses = s.buses ∧
    ((s.setTiming a b c d e).1).feeds = s.feeds ∧ ((s.setTiming a b c d e).1).governors = s.governors ∧
    ((s.setTiming a b c d e).1).notices = s.notices ∧ (∀ j, ((s.setTiming a b c d e).1).session j = s.session j) ∧
    (∀ m, ((s.setTiming a b c d e).1).loc m = s.loc m) ∧ (∀ j, ((s.setTiming a b c d e).1).bus j = s.bus j) ∧ (∀ j,
    ((s.setTiming a b c d e).1).feed j = s.feed j) ∧ (∀ j, ((s.setTiming a b c d e).1).governor j = s.governor j) ∧
    (∀ j, ((s.setTiming a b c d e).1).findTask j = s.findTask j) := by
  unfold setTiming
  simp [session_mk, bus_mk, feed_mk, governor_mk, loc_mk, findTask_mk, getElem_sessions, getElem_buses,
      getElem_feeds, getElem_governors, getElem_locs, find_tasks]

@[simp] theorem setSweep_frame (b p : Nat) :
    ((s.setSweep b p).1).pending = s.pending ∧ ((s.setSweep b p).1).held = s.held ∧ ((s.setSweep b p).1).now = s.now
    ∧ ((s.setSweep b p).1).ms0 = s.ms0 ∧ ((s.setSweep b p).1).ms1 = s.ms1 ∧ ((s.setSweep b p).1).strapMs0 =
    s.strapMs0 ∧ ((s.setSweep b p).1).strapMs1 = s.strapMs1 ∧ ((s.setSweep b p).1).lcs = s.lcs ∧ ((s.setSweep b
    p).1).link = s.link ∧ ((s.setSweep b p).1).sessions = s.sessions ∧ ((s.setSweep b p).1).tasks = s.tasks ∧
    ((s.setSweep b p).1).closures = s.closures ∧ ((s.setSweep b p).1).locs = s.locs ∧ ((s.setSweep b p).1).timing =
    s.timing ∧ ((s.setSweep b p).1).feeds = s.feeds ∧ ((s.setSweep b p).1).governors = s.governors ∧ ((s.setSweep b
    p).1).notices = s.notices ∧ (∀ j, ((s.setSweep b p).1).session j = s.session j) ∧ (∀ m, ((s.setSweep b p).1).loc
    m = s.loc m) ∧ (∀ j, ((s.setSweep b p).1).feed j = s.feed j) ∧ (∀ j, ((s.setSweep b p).1).governor j =
    s.governor j) ∧ (∀ j, ((s.setSweep b p).1).findTask j = s.findTask j) := by
  unfold setSweep
  unfold withBus
  simp only []
  repeat' split
  all_goals simp

@[simp] theorem setFeedRequest_frame (b c d : Nat) :
    ((s.setFeedRequest b c d).1).pending = s.pending ∧ ((s.setFeedRequest b c d).1).held = s.held ∧
    ((s.setFeedRequest b c d).1).now = s.now ∧ ((s.setFeedRequest b c d).1).ms0 = s.ms0 ∧ ((s.setFeedRequest b c
    d).1).ms1 = s.ms1 ∧ ((s.setFeedRequest b c d).1).strapMs0 = s.strapMs0 ∧ ((s.setFeedRequest b c d).1).strapMs1 =
    s.strapMs1 ∧ ((s.setFeedRequest b c d).1).lcs = s.lcs ∧ ((s.setFeedRequest b c d).1).link = s.link ∧
    ((s.setFeedRequest b c d).1).sessions = s.sessions ∧ ((s.setFeedRequest b c d).1).tasks = s.tasks ∧
    ((s.setFeedRequest b c d).1).closures = s.closures ∧ ((s.setFeedRequest b c d).1).locs = s.locs ∧
    ((s.setFeedRequest b c d).1).timing = s.timing ∧ ((s.setFeedRequest b c d).1).buses = s.buses ∧
    ((s.setFeedRequest b c d).1).notices = s.notices ∧ (∀ j, ((s.setFeedRequest b c d).1).session j = s.session j) ∧
    (∀ m, ((s.setFeedRequest b c d).1).loc m = s.loc m) ∧ (∀ j, ((s.setFeedRequest b c d).1).bus j = s.bus j) ∧ (∀
    j, ((s.setFeedRequest b c d).1).findTask j = s.findTask j) := by
  unfold setFeedRequest
  unfold withBus
  simp only []
  repeat' split
  all_goals simp

@[simp] theorem enrolRequest_frame (b : Nat) :
    ((s.enrolRequest b).1).pending = s.pending ∧ ((s.enrolRequest b).1).held = s.held ∧ ((s.enrolRequest b).1).now =
    s.now ∧ ((s.enrolRequest b).1).ms0 = s.ms0 ∧ ((s.enrolRequest b).1).ms1 = s.ms1 ∧ ((s.enrolRequest
    b).1).strapMs0 = s.strapMs0 ∧ ((s.enrolRequest b).1).strapMs1 = s.strapMs1 ∧ ((s.enrolRequest b).1).lcs = s.lcs
    ∧ ((s.enrolRequest b).1).link = s.link ∧ ((s.enrolRequest b).1).sessions = s.sessions ∧ ((s.enrolRequest
    b).1).tasks = s.tasks ∧ ((s.enrolRequest b).1).closures = s.closures ∧ ((s.enrolRequest b).1).locs = s.locs ∧
    ((s.enrolRequest b).1).timing = s.timing ∧ ((s.enrolRequest b).1).feeds = s.feeds ∧ ((s.enrolRequest
    b).1).notices = s.notices ∧ (∀ j, ((s.enrolRequest b).1).session j = s.session j) ∧ (∀ m, ((s.enrolRequest
    b).1).loc m = s.loc m) ∧ (∀ j, ((s.enrolRequest b).1).feed j = s.feed j) ∧ (∀ j, ((s.enrolRequest b).1).findTask
    j = s.findTask j) := by
  unfold enrolRequest
  unfold withBus
  simp only []
  repeat' split
  all_goals simp

@[simp] theorem resetBusRequest_frame (b : Nat) :
    ((s.resetBusRequest b).1).pending = s.pending ∧ ((s.resetBusRequest b).1).held = s.held ∧ ((s.resetBusRequest
    b).1).now = s.now ∧ ((s.resetBusRequest b).1).ms0 = s.ms0 ∧ ((s.resetBusRequest b).1).ms1 = s.ms1 ∧
    ((s.resetBusRequest b).1).strapMs0 = s.strapMs0 ∧ ((s.resetBusRequest b).1).strapMs1 = s.strapMs1 ∧
    ((s.resetBusRequest b).1).lcs = s.lcs ∧ ((s.resetBusRequest b).1).link = s.link ∧ ((s.resetBusRequest
    b).1).sessions = s.sessions ∧ ((s.resetBusRequest b).1).tasks = s.tasks ∧ ((s.resetBusRequest b).1).closures =
    s.closures ∧ ((s.resetBusRequest b).1).locs = s.locs ∧ ((s.resetBusRequest b).1).timing = s.timing ∧
    ((s.resetBusRequest b).1).notices = s.notices ∧ (∀ j, ((s.resetBusRequest b).1).session j = s.session j) ∧ (∀ m,
    ((s.resetBusRequest b).1).loc m = s.loc m) ∧ (∀ j, ((s.resetBusRequest b).1).findTask j = s.findTask j) := by
  unfold resetBusRequest
  unfold withBus
  simp only []
  repeat' split
  all_goals simp

@[simp] theorem queryBus_frame (b : Nat) :
    ((s.queryBus b).1).pending = s.pending ∧ ((s.queryBus b).1).held = s.held ∧ ((s.queryBus b).1).now = s.now ∧
    ((s.queryBus b).1).ms0 = s.ms0 ∧ ((s.queryBus b).1).ms1 = s.ms1 ∧ ((s.queryBus b).1).strapMs0 = s.strapMs0 ∧
    ((s.queryBus b).1).strapMs1 = s.strapMs1 ∧ ((s.queryBus b).1).lcs = s.lcs ∧ ((s.queryBus b).1).link = s.link ∧
    ((s.queryBus b).1).sessions = s.sessions ∧ ((s.queryBus b).1).tasks = s.tasks ∧ ((s.queryBus b).1).closures =
    s.closures ∧ ((s.queryBus b).1).locs = s.locs ∧ ((s.queryBus b).1).timing = s.timing ∧ ((s.queryBus b).1).buses
    = s.buses ∧ ((s.queryBus b).1).feeds = s.feeds ∧ ((s.queryBus b).1).governors = s.governors ∧ ((s.queryBus
    b).1).notices = s.notices ∧ (∀ j, ((s.queryBus b).1).session j = s.session j) ∧ (∀ m, ((s.queryBus b).1).loc m =
    s.loc m) ∧ (∀ j, ((s.queryBus b).1).bus j = s.bus j) ∧ (∀ j, ((s.queryBus b).1).feed j = s.feed j) ∧ (∀ j,
    ((s.queryBus b).1).governor j = s.governor j) ∧ (∀ j, ((s.queryBus b).1).findTask j = s.findTask j) := by
  unfold queryBus
  unfold withBus
  simp only []
  repeat' split
  all_goals simp

@[simp] theorem queryLocation_frame (b n : Nat) :
    ((s.queryLocation b n).1).pending = s.pending ∧ ((s.queryLocation b n).1).held = s.held ∧ ((s.queryLocation b
    n).1).now = s.now ∧ ((s.queryLocation b n).1).ms0 = s.ms0 ∧ ((s.queryLocation b n).1).ms1 = s.ms1 ∧
    ((s.queryLocation b n).1).strapMs0 = s.strapMs0 ∧ ((s.queryLocation b n).1).strapMs1 = s.strapMs1 ∧
    ((s.queryLocation b n).1).lcs = s.lcs ∧ ((s.queryLocation b n).1).link = s.link ∧ ((s.queryLocation b
    n).1).sessions = s.sessions ∧ ((s.queryLocation b n).1).tasks = s.tasks ∧ ((s.queryLocation b n).1).closures =
    s.closures ∧ ((s.queryLocation b n).1).locs = s.locs ∧ ((s.queryLocation b n).1).timing = s.timing ∧
    ((s.queryLocation b n).1).buses = s.buses ∧ ((s.queryLocation b n).1).feeds = s.feeds ∧ ((s.queryLocation b
    n).1).governors = s.governors ∧ ((s.queryLocation b n).1).notices = s.notices ∧ (∀ j, ((s.queryLocation b
    n).1).session j = s.session j) ∧ (∀ m, ((s.queryLocation b n).1).loc m = s.loc m) ∧ (∀ j, ((s.queryLocation b
    n).1).bus j = s.bus j) ∧ (∀ j, ((s.queryLocation b n).1).feed j = s.feed j) ∧ (∀ j, ((s.queryLocation b
    n).1).governor j = s.governor j) ∧ (∀ j, ((s.queryLocation b n).1).findTask j = s.findTask j) := by
  unfold queryLocation
  repeat' split
  all_goals simp

@[simp] theorem directSet_frame (b n c d e f g : Nat) :
    ((s.directSet b n c d e f g).1).pending = s.pending ∧ ((s.directSet b n c d e f g).1).held = s.held ∧
    ((s.directSet b n c d e f g).1).now = s.now ∧ ((s.directSet b n c d e f g).1).ms0 = s.ms0 ∧ ((s.directSet b n c
    d e f g).1).ms1 = s.ms1 ∧ ((s.directSet b n c d e f g).1).strapMs0 = s.strapMs0 ∧ ((s.directSet b n c d e f
    g).1).strapMs1 = s.strapMs1 ∧ ((s.directSet b n c d e f g).1).lcs = s.lcs ∧ ((s.directSet b n c d e f g).1).link
    = s.link ∧ ((s.directSet b n c d e f g).1).sessions = s.sessions ∧ ((s.directSet b n c d e f g).1).tasks =
    s.tasks ∧ ((s.directSet b n c d e f g).1).closures = s.closures ∧ ((s.directSet b n c d e f g).1).timing =
    s.timing ∧ ((s.directSet b n c d e f g).1).buses = s.buses ∧ ((s.directSet b n c d e f g).1).feeds = s.feeds ∧
    ((s.directSet b n c d e f g).1).governors = s.governors ∧ ((s.directSet b n c d e f g).1).notices = s.notices ∧
    (∀ j, ((s.directSet b n c d e f g).1).session j = s.session j) ∧ (∀ j, ((s.directSet b n c d e f g).1).bus j =
    s.bus j) ∧ (∀ j, ((s.directSet b n c d e f g).1).feed j = s.feed j) ∧ (∀ j, ((s.directSet b n c d e f
    g).1).governor j = s.governor j) ∧ (∀ j, ((s.directSet b n c d e f g).1).findTask j = s.findTask j) := by
  unfold directSet
  repeat' split
  all_goals simp

@[simp] theorem directEnd_frame (b n : Nat) :
    ((s.directEnd b n).1).pending = s.pending ∧ ((s.directEnd b n).1).held = s.held ∧ ((s.directEnd b n).1).now =
    s.now ∧ ((s.directEnd b n).1).ms0 = s.ms0 ∧ ((s.directEnd b n).1).ms1 = s.ms1 ∧ ((s.directEnd b n).1).strapMs0 =
    s.strapMs0 ∧ ((s.directEnd b n).1).strapMs1 = s.strapMs1 ∧ ((s.directEnd b n).1).lcs = s.lcs ∧ ((s.directEnd b
    n).1).link = s.link ∧ ((s.directEnd b n).1).sessions = s.sessions ∧ ((s.directEnd b n).1).tasks = s.tasks ∧
    ((s.directEnd b n).1).closures = s.closures ∧ ((s.directEnd b n).1).timing = s.timing ∧ ((s.directEnd b
    n).1).buses = s.buses ∧ ((s.directEnd b n).1).feeds = s.feeds ∧ ((s.directEnd b n).1).governors = s.governors ∧
    ((s.directEnd b n).1).notices = s.notices ∧ (∀ j, ((s.directEnd b n).1).session j = s.session j) ∧ (∀ j,
    ((s.directEnd b n).1).bus j = s.bus j) ∧ (∀ j, ((s.directEnd b n).1).feed j = s.feed j) ∧ (∀ j, ((s.directEnd b
    n).1).governor j = s.governor j) ∧ (∀ j, ((s.directEnd b n).1).findTask j = s.findTask j) := by
  unfold directEnd
  repeat' split
  all_goals simp

@[simp] theorem openSession_frame (i c p : Nat) :
    ((s.openSession i c p).1).pending = s.pending ∧ ((s.openSession i c p).1).held = s.held ∧ ((s.openSession i c
    p).1).now = s.now ∧ ((s.openSession i c p).1).ms0 = s.ms0 ∧ ((s.openSession i c p).1).ms1 = s.ms1 ∧
    ((s.openSession i c p).1).strapMs0 = s.strapMs0 ∧ ((s.openSession i c p).1).strapMs1 = s.strapMs1 ∧
    ((s.openSession i c p).1).lcs = s.lcs ∧ ((s.openSession i c p).1).link = s.link ∧ ((s.openSession i c
    p).1).tasks = s.tasks ∧ ((s.openSession i c p).1).closures = s.closures ∧ ((s.openSession i c p).1).locs =
    s.locs ∧ ((s.openSession i c p).1).timing = s.timing ∧ ((s.openSession i c p).1).buses = s.buses ∧
    ((s.openSession i c p).1).feeds = s.feeds ∧ ((s.openSession i c p).1).governors = s.governors ∧ ((s.openSession
    i c p).1).notices = s.notices ∧ (∀ m, ((s.openSession i c p).1).loc m = s.loc m) ∧ (∀ j, ((s.openSession i c
    p).1).bus j = s.bus j) ∧ (∀ j, ((s.openSession i c p).1).feed j = s.feed j) ∧ (∀ j, ((s.openSession i c
    p).1).governor j = s.governor j) ∧ (∀ j, ((s.openSession i c p).1).findTask j = s.findTask j) := by
  unfold openSession
  unfold withSlot
  simp only []
  repeat' split
  all_goals simp

@[simp] theorem grantRange_frame (i b x y : Nat) :
    ((s.grantRange i b x y).1).pending = s.pending ∧ ((s.grantRange i b x y).1).held = s.held ∧ ((s.grantRange i b x
    y).1).now = s.now ∧ ((s.grantRange i b x y).1).ms0 = s.ms0 ∧ ((s.grantRange i b x y).1).ms1 = s.ms1 ∧
    ((s.grantRange i b x y).1).strapMs0 = s.strapMs0 ∧ ((s.grantRange i b x y).1).strapMs1 = s.strapMs1 ∧
    ((s.grantRange i b x y).1).lcs = s.lcs ∧ ((s.grantRange i b x y).1).link = s.link ∧ ((s.grantRange i b x
    y).1).tasks = s.tasks ∧ ((s.grantRange i b x y).1).closures = s.closures ∧ ((s.grantRange i b x y).1).locs =
    s.locs ∧ ((s.grantRange i b x y).1).timing = s.timing ∧ ((s.grantRange i b x y).1).buses = s.buses ∧
    ((s.grantRange i b x y).1).feeds = s.feeds ∧ ((s.grantRange i b x y).1).governors = s.governors ∧ ((s.grantRange
    i b x y).1).notices = s.notices ∧ (∀ m, ((s.grantRange i b x y).1).loc m = s.loc m) ∧ (∀ j, ((s.grantRange i b x
    y).1).bus j = s.bus j) ∧ (∀ j, ((s.grantRange i b x y).1).feed j = s.feed j) ∧ (∀ j, ((s.grantRange i b x
    y).1).governor j = s.governor j) ∧ (∀ j, ((s.grantRange i b x y).1).findTask j = s.findTask j) := by
  unfold grantRange
  unfold withSlot
  simp only []
  repeat' split
  all_goals simp

@[simp] theorem revokeRange_frame (i x : Nat) :
    ((s.revokeRange i x).1).pending = s.pending ∧ ((s.revokeRange i x).1).held = s.held ∧ ((s.revokeRange i
    x).1).now = s.now ∧ ((s.revokeRange i x).1).ms0 = s.ms0 ∧ ((s.revokeRange i x).1).ms1 = s.ms1 ∧ ((s.revokeRange
    i x).1).strapMs0 = s.strapMs0 ∧ ((s.revokeRange i x).1).strapMs1 = s.strapMs1 ∧ ((s.revokeRange i x).1).lcs =
    s.lcs ∧ ((s.revokeRange i x).1).link = s.link ∧ ((s.revokeRange i x).1).tasks = s.tasks ∧ ((s.revokeRange i
    x).1).closures = s.closures ∧ ((s.revokeRange i x).1).locs = s.locs ∧ ((s.revokeRange i x).1).timing = s.timing
    ∧ ((s.revokeRange i x).1).buses = s.buses ∧ ((s.revokeRange i x).1).feeds = s.feeds ∧ ((s.revokeRange i
    x).1).governors = s.governors ∧ ((s.revokeRange i x).1).notices = s.notices ∧ (∀ m, ((s.revokeRange i x).1).loc
    m = s.loc m) ∧ (∀ j, ((s.revokeRange i x).1).bus j = s.bus j) ∧ (∀ j, ((s.revokeRange i x).1).feed j = s.feed j)
    ∧ (∀ j, ((s.revokeRange i x).1).governor j = s.governor j) ∧ (∀ j, ((s.revokeRange i x).1).findTask j =
    s.findTask j) := by
  unfold revokeRange
  unfold withSlot
  simp only []
  repeat' split
  all_goals simp

@[simp] theorem changePriority_frame (i x : Nat) :
    ((s.changePriority i x).1).pending = s.pending ∧ ((s.changePriority i x).1).held = s.held ∧ ((s.changePriority i
    x).1).now = s.now ∧ ((s.changePriority i x).1).ms0 = s.ms0 ∧ ((s.changePriority i x).1).ms1 = s.ms1 ∧
    ((s.changePriority i x).1).strapMs0 = s.strapMs0 ∧ ((s.changePriority i x).1).strapMs1 = s.strapMs1 ∧
    ((s.changePriority i x).1).lcs = s.lcs ∧ ((s.changePriority i x).1).link = s.link ∧ ((s.changePriority i
    x).1).tasks = s.tasks ∧ ((s.changePriority i x).1).closures = s.closures ∧ ((s.changePriority i x).1).locs =
    s.locs ∧ ((s.changePriority i x).1).timing = s.timing ∧ ((s.changePriority i x).1).buses = s.buses ∧
    ((s.changePriority i x).1).feeds = s.feeds ∧ ((s.changePriority i x).1).governors = s.governors ∧
    ((s.changePriority i x).1).notices = s.notices ∧ (∀ m, ((s.changePriority i x).1).loc m = s.loc m) ∧ (∀ j,
    ((s.changePriority i x).1).bus j = s.bus j) ∧ (∀ j, ((s.changePriority i x).1).feed j = s.feed j) ∧ (∀ j,
    ((s.changePriority i x).1).governor j = s.governor j) ∧ (∀ j, ((s.changePriority i x).1).findTask j = s.findTask
    j) := by
  unfold changePriority
  unfold withSlot
  simp only []
  repeat' split
  all_goals simp

@[simp] theorem suspendSession_frame (i : Nat) :
    ((s.suspendSession i).1).pending = s.pending ∧ ((s.suspendSession i).1).held = s.held ∧ ((s.suspendSession
    i).1).now = s.now ∧ ((s.suspendSession i).1).ms0 = s.ms0 ∧ ((s.suspendSession i).1).ms1 = s.ms1 ∧
    ((s.suspendSession i).1).strapMs0 = s.strapMs0 ∧ ((s.suspendSession i).1).strapMs1 = s.strapMs1 ∧
    ((s.suspendSession i).1).lcs = s.lcs ∧ ((s.suspendSession i).1).link = s.link ∧ ((s.suspendSession i).1).tasks =
    s.tasks ∧ ((s.suspendSession i).1).closures = s.closures ∧ ((s.suspendSession i).1).timing = s.timing ∧
    ((s.suspendSession i).1).buses = s.buses ∧ ((s.suspendSession i).1).feeds = s.feeds ∧ ((s.suspendSession
    i).1).governors = s.governors ∧ ((s.suspendSession i).1).notices = s.notices ∧ (∀ j, ((s.suspendSession
    i).1).bus j = s.bus j) ∧ (∀ j, ((s.suspendSession i).1).feed j = s.feed j) ∧ (∀ j, ((s.suspendSession
    i).1).governor j = s.governor j) ∧ (∀ j, ((s.suspendSession i).1).findTask j = s.findTask j) := by
  unfold suspendSession
  unfold withSlot
  simp only []
  repeat' split
  all_goals simp

@[simp] theorem resumeSession_frame (i : Nat) :
    ((s.resumeSession i).1).pending = s.pending ∧ ((s.resumeSession i).1).held = s.held ∧ ((s.resumeSession
    i).1).now = s.now ∧ ((s.resumeSession i).1).ms0 = s.ms0 ∧ ((s.resumeSession i).1).ms1 = s.ms1 ∧
    ((s.resumeSession i).1).strapMs0 = s.strapMs0 ∧ ((s.resumeSession i).1).strapMs1 = s.strapMs1 ∧
    ((s.resumeSession i).1).lcs = s.lcs ∧ ((s.resumeSession i).1).link.request = s.link.request ∧ ((s.resumeSession
    i).1).link.replies = s.link.replies ∧ ((s.resumeSession i).1).link.lastOutcome = s.link.lastOutcome ∧
    ((s.resumeSession i).1).link.readySample = s.link.readySample ∧ ((s.resumeSession i).1).link.outbound =
    s.link.outbound ∧ ((s.resumeSession i).1).link.status = s.link.status ∧ ((s.resumeSession i).1).timing =
    s.timing ∧ ((s.resumeSession i).1).buses = s.buses ∧ ((s.resumeSession i).1).feeds = s.feeds ∧ ((s.resumeSession
    i).1).governors = s.governors ∧ ((s.resumeSession i).1).notices.classes = s.notices.classes ∧ ((s.resumeSession
    i).1).notices.mask = s.notices.mask ∧ ((s.resumeSession i).1).notices.transmitting = s.notices.transmitting ∧ (∀
    j, ((s.resumeSession i).1).bus j = s.bus j) ∧ (∀ j, ((s.resumeSession i).1).feed j = s.feed j) ∧ (∀ j,
    ((s.resumeSession i).1).governor j = s.governor j) := by
  unfold resumeSession
  unfold withSlot
  simp only []
  repeat' split
  all_goals simp

@[simp] theorem closeSession_frame (i : Nat) :
    ((s.closeSession i).1).pending = s.pending ∧ ((s.closeSession i).1).held = s.held ∧ ((s.closeSession i).1).now =
    s.now ∧ ((s.closeSession i).1).ms0 = s.ms0 ∧ ((s.closeSession i).1).ms1 = s.ms1 ∧ ((s.closeSession
    i).1).strapMs0 = s.strapMs0 ∧ ((s.closeSession i).1).strapMs1 = s.strapMs1 ∧ ((s.closeSession i).1).lcs = s.lcs
    ∧ ((s.closeSession i).1).link = s.link ∧ ((s.closeSession i).1).closures = s.closures ∧ ((s.closeSession
    i).1).timing = s.timing ∧ ((s.closeSession i).1).buses = s.buses ∧ ((s.closeSession i).1).feeds = s.feeds ∧
    ((s.closeSession i).1).governors = s.governors ∧ ((s.closeSession i).1).notices = s.notices ∧ (∀ j,
    ((s.closeSession i).1).bus j = s.bus j) ∧ (∀ j, ((s.closeSession i).1).feed j = s.feed j) ∧ (∀ j,
    ((s.closeSession i).1).governor j = s.governor j) := by
  unfold closeSession
  unfold withSlot
  simp only []
  repeat' split
  all_goals simp

@[simp] theorem querySession_frame (i : Nat) :
    ((s.querySession i).1).pending = s.pending ∧ ((s.querySession i).1).held = s.held ∧ ((s.querySession i).1).now =
    s.now ∧ ((s.querySession i).1).ms0 = s.ms0 ∧ ((s.querySession i).1).ms1 = s.ms1 ∧ ((s.querySession
    i).1).strapMs0 = s.strapMs0 ∧ ((s.querySession i).1).strapMs1 = s.strapMs1 ∧ ((s.querySession i).1).lcs = s.lcs
    ∧ ((s.querySession i).1).link = s.link ∧ ((s.querySession i).1).sessions = s.sessions ∧ ((s.querySession
    i).1).tasks = s.tasks ∧ ((s.querySession i).1).closures = s.closures ∧ ((s.querySession i).1).locs = s.locs ∧
    ((s.querySession i).1).timing = s.timing ∧ ((s.querySession i).1).buses = s.buses ∧ ((s.querySession i).1).feeds
    = s.feeds ∧ ((s.querySession i).1).governors = s.governors ∧ ((s.querySession i).1).notices = s.notices ∧ (∀ j,
    ((s.querySession i).1).session j = s.session j) ∧ (∀ m, ((s.querySession i).1).loc m = s.loc m) ∧ (∀ j,
    ((s.querySession i).1).bus j = s.bus j) ∧ (∀ j, ((s.querySession i).1).feed j = s.feed j) ∧ (∀ j,
    ((s.querySession i).1).governor j = s.governor j) ∧ (∀ j, ((s.querySession i).1).findTask j = s.findTask j) := by
  unfold querySession
  unfold withSlot
  simp only []
  repeat' split
  all_goals simp

@[simp] theorem postTask_frame (a b c d e f g : Nat) :
    ((s.postTask a b c d e f g).1).pending = s.pending ∧ ((s.postTask a b c d e f g).1).held = s.held ∧ ((s.postTask
    a b c d e f g).1).now = s.now ∧ ((s.postTask a b c d e f g).1).ms0 = s.ms0 ∧ ((s.postTask a b c d e f g).1).ms1
    = s.ms1 ∧ ((s.postTask a b c d e f g).1).strapMs0 = s.strapMs0 ∧ ((s.postTask a b c d e f g).1).strapMs1 =
    s.strapMs1 ∧ ((s.postTask a b c d e f g).1).lcs = s.lcs ∧ ((s.postTask a b c d e f g).1).link = s.link ∧
    ((s.postTask a b c d e f g).1).sessions = s.sessions ∧ ((s.postTask a b c d e f g).1).closures = s.closures ∧
    ((s.postTask a b c d e f g).1).timing = s.timing ∧ ((s.postTask a b c d e f g).1).buses = s.buses ∧ ((s.postTask
    a b c d e f g).1).feeds = s.feeds ∧ ((s.postTask a b c d e f g).1).governors = s.governors ∧ ((s.postTask a b c
    d e f g).1).notices = s.notices ∧ (∀ j, ((s.postTask a b c d e f g).1).session j = s.session j) ∧ (∀ j,
    ((s.postTask a b c d e f g).1).bus j = s.bus j) ∧ (∀ j, ((s.postTask a b c d e f g).1).feed j = s.feed j) ∧ (∀
    j, ((s.postTask a b c d e f g).1).governor j = s.governor j) := by
  unfold postTask
  unfold postAt
  simp only []
  repeat' split
  all_goals simp

@[simp] theorem amendTask_frame (a b : Nat) :
    ((s.amendTask a b).1).pending = s.pending ∧ ((s.amendTask a b).1).held = s.held ∧ ((s.amendTask a b).1).now =
    s.now ∧ ((s.amendTask a b).1).ms0 = s.ms0 ∧ ((s.amendTask a b).1).ms1 = s.ms1 ∧ ((s.amendTask a b).1).strapMs0 =
    s.strapMs0 ∧ ((s.amendTask a b).1).strapMs1 = s.strapMs1 ∧ ((s.amendTask a b).1).lcs = s.lcs ∧ ((s.amendTask a
    b).1).link.request = s.link.request ∧ ((s.amendTask a b).1).link.replies = s.link.replies ∧ ((s.amendTask a
    b).1).link.lastOutcome = s.link.lastOutcome ∧ ((s.amendTask a b).1).link.readySample = s.link.readySample ∧
    ((s.amendTask a b).1).link.outbound = s.link.outbound ∧ ((s.amendTask a b).1).link.status = s.link.status ∧
    ((s.amendTask a b).1).closures = s.closures ∧ ((s.amendTask a b).1).timing = s.timing ∧ ((s.amendTask a
    b).1).buses = s.buses ∧ ((s.amendTask a b).1).feeds = s.feeds ∧ ((s.amendTask a b).1).governors = s.governors ∧
    ((s.amendTask a b).1).notices.classes = s.notices.classes ∧ ((s.amendTask a b).1).notices.mask = s.notices.mask
    ∧ ((s.amendTask a b).1).notices.transmitting = s.notices.transmitting ∧ (∀ j, ((s.amendTask a b).1).bus j =
    s.bus j) ∧ (∀ j, ((s.amendTask a b).1).feed j = s.feed j) ∧ (∀ j, ((s.amendTask a b).1).governor j = s.governor
    j) := by
  unfold amendTask
  simp only []
  repeat' split
  all_goals simp

@[simp] theorem withdrawTask_frame (a b : Nat) :
    ((s.withdrawTask a b).1).pending = s.pending ∧ ((s.withdrawTask a b).1).held = s.held ∧ ((s.withdrawTask a
    b).1).now = s.now ∧ ((s.withdrawTask a b).1).ms0 = s.ms0 ∧ ((s.withdrawTask a b).1).ms1 = s.ms1 ∧
    ((s.withdrawTask a b).1).strapMs0 = s.strapMs0 ∧ ((s.withdrawTask a b).1).strapMs1 = s.strapMs1 ∧
    ((s.withdrawTask a b).1).lcs = s.lcs ∧ ((s.withdrawTask a b).1).link = s.link ∧ ((s.withdrawTask a
    b).1).closures = s.closures ∧ ((s.withdrawTask a b).1).timing = s.timing ∧ ((s.withdrawTask a b).1).buses =
    s.buses ∧ ((s.withdrawTask a b).1).feeds = s.feeds ∧ ((s.withdrawTask a b).1).governors = s.governors ∧
    ((s.withdrawTask a b).1).notices = s.notices ∧ (∀ j, ((s.withdrawTask a b).1).bus j = s.bus j) ∧ (∀ j,
    ((s.withdrawTask a b).1).feed j = s.feed j) ∧ (∀ j, ((s.withdrawTask a b).1).governor j = s.governor j) := by
  unfold withdrawTask
  simp only []
  repeat' split
  all_goals simp

@[simp] theorem queryTask_frame (a : Nat) :
    ((s.queryTask a).1).pending = s.pending ∧ ((s.queryTask a).1).held = s.held ∧ ((s.queryTask a).1).now = s.now ∧
    ((s.queryTask a).1).ms0 = s.ms0 ∧ ((s.queryTask a).1).ms1 = s.ms1 ∧ ((s.queryTask a).1).strapMs0 = s.strapMs0 ∧
    ((s.queryTask a).1).strapMs1 = s.strapMs1 ∧ ((s.queryTask a).1).lcs = s.lcs ∧ ((s.queryTask a).1).link = s.link
    ∧ ((s.queryTask a).1).sessions = s.sessions ∧ ((s.queryTask a).1).closures = s.closures ∧ ((s.queryTask
    a).1).locs = s.locs ∧ ((s.queryTask a).1).timing = s.timing ∧ ((s.queryTask a).1).buses = s.buses ∧
    ((s.queryTask a).1).feeds = s.feeds ∧ ((s.queryTask a).1).governors = s.governors ∧ ((s.queryTask a).1).notices
    = s.notices ∧ (∀ j, ((s.queryTask a).1).session j = s.session j) ∧ (∀ m, ((s.queryTask a).1).loc m = s.loc m) ∧
    (∀ j, ((s.queryTask a).1).bus j = s.bus j) ∧ (∀ j, ((s.queryTask a).1).feed j = s.feed j) ∧ (∀ j, ((s.queryTask
    a).1).governor j = s.governor j) := by
  unfold queryTask
  repeat' split
  all_goals simp

end Sys2Proof.Machine.State
end

