-- ==== Sys2Proof/Laws/Tasks.lean ====
section
/-! SUPPORT. What the operations of the task store do: lookup and update by id, freeing, closing, splicing. -/

namespace Sys2Proof.Machine.State

variable (s : State)

/-! ### Lookup -/

theorem findTask_mem {s : State} {id : Nat} {t : Task} (h : s.findTask id = some t) : t ∈ s.tasks ∧ t.id = id := by
  refine ⟨List.mem_of_find?_eq_some h, ?_⟩
  simpa using List.find?_some h

theorem findTask_none {s : State} {id : Nat} : s.findTask id = none ↔ ∀ t ∈ s.tasks, t.id ≠ id := by
  simp [findTask]

/-- With one record to an id, a record of the store is the one its id finds. -/
theorem findTask_of_mem {s : State} (h : (s.tasks.map Task.id).Nodup) {t : Task} (ht : t ∈ s.tasks) :
    s.findTask t.id = some t := by
  unfold findTask
  generalize s.tasks = ts at h ht
  induction ts with
  | nil => cases ht
  | cons u us ih =>
    simp only [List.map_cons, List.nodup_cons] at h
    rcases List.mem_cons.mp ht with rfl | ht
    · simp
    · have : u.id ≠ t.id := fun e => h.1 (by rw [e]; exact List.mem_map_of_mem ht)
      simp [this, ih h.2 ht]

theorem findTask_eq_some {s : State} (h : (s.tasks.map Task.id).Nodup) {id : Nat} {t : Task} :
    s.findTask id = some t ↔ t ∈ s.tasks ∧ t.id = id :=
  ⟨findTask_mem, fun ⟨ht, he⟩ => he ▸ findTask_of_mem h ht⟩

/-- An update that keeps ids finds, at each id, the updated record. -/
theorem findTask_updTask (id j : Nat) (f : Task → Task) (hf : ∀ t, (f t).id = t.id) :
    (s.updTask id f).findTask j = (s.findTask j).map fun t => if t.id = id then f t else t := by
  have hk : ∀ t : Task, (if t.id = id then f t else t).id = t.id := by intro t; split <;> simp [hf]
  simp only [findTask, updTask, List.find?_map, Function.comp_def, hk]

theorem findTask_dropTask (id j : Nat) : (s.dropTask id).findTask j = if j = id then none else s.findTask j := by
  simp only [findTask, dropTask, List.find?_filter]
  split
  · rename_i h
    simp [h]
  · rename_i h
    apply List.find?_congr
    intro t _
    by_cases ht : t.id = j <;> simp [ht, h]

/-! ### The records of an updated store -/

@[simp] theorem tasks_updTask (id : Nat) (f : Task → Task) :
    (s.updTask id f).tasks = s.tasks.map fun t => if t.id = id then f t else t := rfl

@[simp] theorem tasks_dropTask (id : Nat) : (s.dropTask id).tasks = s.tasks.filter fun t => t.id != id := rfl

/-! ### Freeing -/

@[simp] theorem tasks_freeTask (t : Task) : (s.freeTask t).tasks = s.tasks.filter fun u => u.id != t.id := by
  simp [freeTask]

theorem loc_freeTask (t : Task) (l : Loc) :
    (s.freeTask t).loc l = if l = t.loc then { s.loc l with
      tasks := ((s.loc l).tasks.filter fun i => i != t.id),
      rot := { (s.loc l).rot with hold := (s.loc l).rot.hold.filter fun h => h.task != t.id } } else s.loc l := by
  simp only [freeTask, endHold, unlist, dropTask_frame, loc_modRot, dropPending_frame, loc_modLoc]
  split
  · rename_i h; subst h; simp
  · rfl

theorem session_freeTask (t : Task) (i : Fin 8) :
    (s.freeTask t).session i = if i = t.slot then { s.session i with
      pending := (s.session i).pending.filter fun e => e.task != t.id } else s.session i := by
  simp only [freeTask, dropTask_frame, endHold_frame, dropPending, unlist_frame, session_setSession]
  split
  · rename_i h; subst h; rfl
  · rfl

theorem optionFilter_filter {α : Type} (o : Option α) (p q : α → Bool) :
    (o.filter p).filter q = o.filter fun a => p a && q a := by
  cases o with
  | none => rfl
  | some a => by_cases hp : p a = true <;> simp [Option.filter, hp]

theorem optionFilter_true {α : Type} (o : Option α) (p : α → Bool) (h : ∀ a, p a = true) : o.filter p = o := by
  cases o with
  | none => rfl
  | some a => simp [Option.filter, h]

/-- Freeing a list of tasks takes each out of the store, out of the list and the hold of its location, and out of the
pending list of its session (R37). -/
theorem freeTasks_spec (ts : List Task) :
    (ts.foldl State.freeTask s).tasks = s.tasks.filter (fun u => !ts.any fun t => t.id == u.id) ∧
    (∀ l, (ts.foldl State.freeTask s).loc l = { s.loc l with
      tasks := ((s.loc l).tasks.filter fun i => !ts.any fun t => t.id == i && t.loc == l),
      rot := { (s.loc l).rot with
        hold := (s.loc l).rot.hold.filter fun h => !ts.any fun t => t.id == h.task && t.loc == l } }) ∧
    (∀ i, (ts.foldl State.freeTask s).session i = { s.session i with
      pending := (s.session i).pending.filter fun e => !ts.any fun t => t.id == e.task && t.slot == i }) := by
  induction ts generalizing s with
  | nil => simp [optionFilter_true]
  | cons t ts ih =>
    obtain ⟨h1, h2, h3⟩ := ih (s.freeTask t)
    have comm : ∀ n, (n != t.id) = !(t.id == n) := fun n => by rw [bne, Bool.beq_comm]
    refine ⟨?_, fun l => ?_, fun i => ?_⟩
    · rw [List.foldl_cons, h1, tasks_freeTask, List.filter_filter]
      simp only [List.any_cons, Bool.not_or, comm, Bool.and_comm]
    · rw [List.foldl_cons, h2, loc_freeTask]
      by_cases hl : l = t.loc
      · subst hl
        simp only [if_true, List.filter_filter, optionFilter_filter, List.any_cons, Bool.not_or, comm, beq_self_eq_true,
          Bool.true_and, Bool.and_comm]
      · have : (t.loc == l) = false := by simpa using Ne.symm hl
        simp [hl, this]
    · rw [List.foldl_cons, h3, session_freeTask]
      by_cases hi : i = t.slot
      · subst hi
        simp only [if_true, List.filter_filter, List.any_cons, Bool.not_or, comm, beq_self_eq_true, Bool.true_and,
          Bool.and_comm]
      · have : (t.slot == i) = false := by simpa using Ne.symm hi
        simp [hi, this]

end Sys2Proof.Machine.State
end

