-- ==== Sys2Proof/Laws/Confirm.lean ====
section
/-! SUPPORT. What a closure, a KEEP partial and the CONFIRM rule do (R31, R79, R80). -/

namespace Sys2Proof.Machine.State

variable (s : State)

@[simp] theorem closures_closeTask (t : Task) (o : TaskOutcome) (p : Nat) :
    (s.closeTask t o p).closures = s.closures + 1 := by
  simp [closeTask]

theorem tasks_release (q : Option Nat) :
    (s.release q).tasks = s.tasks.map fun t => if q = some t.id then { t with state := .opened, pred := none } else t := by
  unfold release
  cases q with
  | none => simp
  | some id => simp [updTask, eq_comm]

/-- The records after a closure: the closed one, and its successor released (R30, R31). -/
theorem tasks_closeTask (t : Task) (o : TaskOutcome) (p : Nat) :
    (s.closeTask t o p).tasks = (s.tasks.map fun x =>
      if x.id = t.id then
        { x with picked := p, state := .closed, outcome := some o, offered := 0, succ := none, closure := some s.closures }
      else x).map fun x => if t.succ = some x.id then { x with state := .opened, pred := none } else x := by
  simp only [closeTask, startLinger_frame, queueNotice_frame, tasks_release, unlist_frame, tasks_updTask]

theorem loc_startLinger (l m : Loc) (id : Nat) (i : Fin 8) :
    (s.startLinger l id i).loc m = if m = l then { s.loc l with rot := { (s.loc l).rot with
      hold := (s.loc l).rot.hold.filter fun h => h.task != id,
      linger := if s.timing.linger = 0 then (s.loc l).rot.linger
        else some { task := id, slot := i, expiry := s.now + s.timing.linger } } } else s.loc m := by
  unfold startLinger
  simp only [endHold_frame]
  by_cases h : s.timing.linger = 0 <;> by_cases hm : m = l <;> simp [h, hm, endHold]

/-- The location of a closed task: the task leaves the list, a hold on it ends, and a linger starts unless LINGER is 0
(R31, R49, R50). -/
theorem loc_closeTask (t : Task) (o : TaskOutcome) (p : Nat) (m : Loc) :
    (s.closeTask t o p).loc m = if m = t.loc then { s.loc t.loc with
      tasks := (s.loc t.loc).tasks.filter fun i => i != t.id,
      rot := { (s.loc t.loc).rot with
        hold := (s.loc t.loc).rot.hold.filter fun h => h.task != t.id,
        linger := if s.timing.linger = 0 then (s.loc t.loc).rot.linger
          else some { task := t.id, slot := t.slot, expiry := s.now + s.timing.linger } } } else s.loc m := by
  simp only [closeTask, loc_startLinger, queueNotice_frame, release_frame, unlist_frame, updTask_frame]
  by_cases hm : m = t.loc <;> simp [hm, unlist, loc_mk, getElem_locs, updTask]

theorem tasks_keepPartial (t : Task) (n : Nat) :
    (s.keepPartial t n).tasks = s.tasks.map fun x =>
      if x.id = t.id then { x with picked := t.picked + n, offered := x.requested - (t.picked + n) } else x := by
  simp only [keepPartial, endHold_frame, queueNotice_frame, tasks_updTask]

theorem loc_keepPartial (t : Task) (n : Nat) (m : Loc) :
    (s.keepPartial t n).loc m = if m = t.loc then { s.loc t.loc with rot := { (s.loc t.loc).rot with
      hold := (s.loc t.loc).rot.hold.filter fun h => h.task != t.id } } else s.loc m := by
  simp only [keepPartial, endHold, loc_modRot, queueNotice_frame, updTask_frame]

/-- The CONFIRM rule closes the task or makes a KEEP partial (R79, R80). -/
theorem applyConfirm_cases (t : Task) (n : Nat) :
    (n = t.remaining ∧ s.applyConfirm t n = s.closeTask t .done (t.picked + n)) ∨
    (n ≠ t.remaining ∧ n = 0 ∧ s.applyConfirm t n = s.closeTask t .short t.picked) ∨
    (n ≠ t.remaining ∧ n ≠ 0 ∧ t.shortMode = .close ∧ s.applyConfirm t n = s.closeTask t .short (t.picked + n)) ∨
    (n ≠ t.remaining ∧ n ≠ 0 ∧ t.shortMode = .keep ∧ s.applyConfirm t n = s.keepPartial t n) := by
  unfold applyConfirm
  by_cases h : n = t.remaining
  · exact .inl ⟨h, if_pos h⟩
  · rw [if_neg h]
    by_cases h0 : n = 0
    · exact .inr (.inl ⟨h, h0, if_pos h0⟩)
    · rw [if_neg h0]
      cases hm : t.shortMode with
      | close => exact .inr (.inr (.inl ⟨h, h0, rfl, rfl⟩))
      | keep => exact .inr (.inr (.inr ⟨h, h0, rfl, rfl⟩))

end Sys2Proof.Machine.State
end

