-- ==== Sys2Proof/Laws/Display.lean ====
section
/-! SUPPORT. What a planning can choose, and what it leaves (R46 to R60). -/

namespace Sys2Proof.Machine

/-- What a choice leaves of the rotation state it starts from: only the dwell expiry, the rotation position, the hold and the linger
may differ (R46 to R54). -/
structure Rotation.SameShown (r q : Rotation) : Prop where
  token : r.token = q.token
  map : r.map = q.map
  meaning : r.meaning = q.meaning
  face : r.face = q.face
  slotStart : r.slotStart = q.slotStart
  direct : r.direct = q.direct
  fresh : r.fresh = q.fresh

namespace State

variable (s : State)

/-! ### The eligible set -/

theorem frontTask_prop {s : State} {l : Loc} {i : Fin 8} {t : Task} (h : s.frontTask l i = some t) :
    t.state = .opened ∧ t.slot = i ∧ t.id ∈ (s.loc l).tasks ∧ s.findTask t.id = some t := by
  obtain ⟨id, hid, hf⟩ := List.exists_of_findSome?_eq_some h
  simp only [Option.filter_eq_some_iff, Bool.and_eq_true, beq_iff_eq] at hf
  obtain ⟨hf, ho, hs⟩ := hf
  have := (findTask_mem hf).2
  subst this
  exact ⟨ho, hs, hid, hf⟩

theorem mem_eligible {s : State} {l : Loc} {t : Task} :
    t ∈ s.eligible l ↔ (s.session t.slot).state = .active ∧ s.frontTask l t.slot = some t := by
  unfold eligible
  simp only [List.mem_filterMap, List.mem_finRange, true_and]
  constructor
  · rintro ⟨i, hi⟩
    split at hi
    · rename_i ha
      have := (frontTask_prop hi).2.1
      subst this
      exact ⟨ha, hi⟩
    · cases hi
  · rintro ⟨ha, hf⟩
    exact ⟨t.slot, by rw [if_pos ha, hf]⟩

/-! ### What is chosen -/

theorem nextInCycle_mem {p : Option (Fin 8)} {first : Task} {el : List Task} (h : first ∈ el) :
    nextInCycle p first el ∈ el := by
  unfold nextInCycle
  split
  · exact h
  · rename_i q
    cases hf : el.find? fun t => decide (q < t.slot) with
    | none => exact h
    | some t => exact List.mem_of_find?_eq_some hf

theorem currentTask_mem {m : Option Meaning} {el : List Task} {t : Task} (h : currentTask m el = some t) : t ∈ el := by
  unfold currentTask at h
  split at h
  · exact List.mem_of_find?_eq_some h
  · cases h

/-- A choice of cases 4 to 7 that shows a task shows one of the eligible set in its task content, and leaves the rest of the rotation
state. -/
theorem chooseTask_spec (l : Loc) (rot : Rotation) :
    (s.chooseTask l rot).rot.SameShown rot ∧
    ((s.chooseTask l rot).meaning = .idle ∨
      ∃ t ∈ s.eligible l, (s.chooseTask l rot).meaning = .task { task := t.id, slot := t.slot } ∧
        (s.chooseTask l rot).face = s.taskFace l t) := by
  have show_ : ∀ (t : Task) (r : Rotation) (d : Option Instant) (a : Bool), r.SameShown rot → t ∈ s.eligible l →
      (s.showTask l t r d a).rot.SameShown rot ∧
      ((s.showTask l t r d a).meaning = .idle ∨
        ∃ u ∈ s.eligible l, (s.showTask l t r d a).meaning = .task { task := u.id, slot := u.slot } ∧
          (s.showTask l t r d a).face = s.taskFace l u) :=
    fun t r d a hr ht => ⟨⟨hr.token, hr.map, hr.meaning, hr.face, hr.slotStart, hr.direct, hr.fresh⟩, .inr ⟨t, ht, rfl, rfl⟩⟩
  have same : rot.SameShown rot := ⟨rfl, rfl, rfl, rfl, rfl, rfl, rfl⟩
  have noHold : Rotation.SameShown { rot with hold := none } rot := ⟨rfl, rfl, rfl, rfl, rfl, rfl, rfl⟩
  unfold chooseTask
  simp only []
  split
  · rename_i t ht
    refine show_ t rot _ _ same ?_
    obtain ⟨h, _, hf⟩ := Option.bind_eq_some_iff.mp ht
    exact List.mem_of_find?_eq_some hf
  · split
    · exact ⟨⟨rfl, rfl, rfl, rfl, rfl, rfl, rfl⟩, .inl rfl⟩
    · rename_i t he
      exact show_ t _ _ _ noHold (by rw [he]; simp)
    · rename_i t rest _ he
      unfold rotate
      simp only []
      have hn : nextInCycle rot.position t (t :: rest) ∈ s.eligible l := by
        rw [he]
        exact nextInCycle_mem (by simp)
      split
      · exact show_ _ _ _ _ noHold hn
      · rename_i u hu
        have hu : u ∈ s.eligible l := by
          rw [he]
          exact currentTask_mem hu
        split
        · exact show_ _ _ _ _ noHold hu
        · split
          · exact show_ _ _ _ _ noHold hu
          · exact show_ _ _ _ _ noHold hn

/-- A choice leaves all but the dwell expiry, the rotation position, the hold and the linger; and one that shows a task shows one of
the eligible set in its task content. -/
theorem choose_spec (l : Loc) :
    (s.choose l).rot.SameShown (s.loc l).rot ∧
    ∀ x, (s.choose l).meaning = .task x →
      ∃ t ∈ s.eligible l, x = { task := t.id, slot := t.slot } ∧ (s.choose l).face = s.taskFace l t := by
  have same : Rotation.SameShown ((s.loc l).rot.expire s.now) (s.loc l).rot := ⟨rfl, rfl, rfl, rfl, rfl, rfl, rfl⟩
  unfold choose
  simp only []
  split
  · exact ⟨same, by rintro x ⟨⟩⟩
  · split
    · exact ⟨same, by rintro x ⟨⟩⟩
    · split
      · exact ⟨same, by rintro x ⟨⟩⟩
      · split
        · exact ⟨⟨rfl, rfl, rfl, rfl, rfl, rfl, rfl⟩, by rintro x ⟨⟩⟩
        · obtain ⟨h1, h2⟩ := s.chooseTask_spec l ((s.loc l).rot.expire s.now)
          refine ⟨⟨h1.token, h1.map, h1.meaning, h1.face, h1.slotStart, h1.direct, h1.fresh⟩, fun x hx => ?_⟩
          rcases h2 with h2 | ⟨t, ht, hm, hf⟩
          · rw [h2] at hx; cases hx
          · rw [hm] at hx
            cases hx
            exact ⟨t, ht, rfl, hf⟩

/-- The rotation state of a location after its planning. -/
theorem rot_plan (l m : Loc) :
    (s.plan l).loc m = if m = l then { s.loc l with rot := (s.choose l).settle s.now } else s.loc m := by
  simp [plan]

end State

end Sys2Proof.Machine
end

