-- ==== Sys2Proof/Laws/Frames.lean ====
section
/-! SUPPORT. Which received bytes are good answers: exactly the frames that carry their CRC and the awaited address
(R111, R179, R180). -/

namespace Sys2Proof.Machine

theorem byte_of_toNat {a : Nat} {b : Byte} (ha : a < 256) (h : b.toNat = a) : b = BitVec.ofNat 8 a := by
  apply BitVec.eq_of_toNat_eq
  simp
  omega

theorem toNat_byte {a : Nat} (ha : a < 256) : (BitVec.ofNat 8 a).toNat = a := by
  simp
  omega

/-! ### Stop bits -/

@[simp] theorem goodBytes_clean (bytes : List Byte) : goodBytes (cleanBytes bytes) = some bytes := by
  simp [goodBytes, cleanBytes, Function.comp_def]

theorem goodBytes_eq_some {frame : List PairByte} {bytes : List Byte} :
    goodBytes frame = some bytes ↔ frame = cleanBytes bytes := by
  constructor
  · intro h
    unfold goodBytes at h
    split at h
    · rename_i hs
      cases h
      unfold cleanBytes
      rw [List.map_map]
      refine (List.map_id frame).symm.trans (List.map_congr_left fun x hx => ?_)
      have := List.all_eq_true.mp hs x hx
      cases x
      simp_all
    · cases h
  · rintro rfl
    exact goodBytes_clean bytes

theorem goodBytes_wrong_stop {frame : List PairByte} (h : ∃ x ∈ frame, x.stop = false) : goodBytes frame = none := by
  obtain ⟨x, hx, hs⟩ := h
  unfold goodBytes
  rw [if_neg]
  intro ha
  simp [List.all_eq_true.mp ha x hx] at hs

/-- A reader of good frames finds nothing in a frame that is none of those it reads. -/
theorem goodBytes_bind_none {α : Type} {frame : List PairByte} {f : List Byte → Option α}
    (h : ∀ bytes, frame = cleanBytes bytes → f bytes = none) : (goodBytes frame).bind f = none := by
  cases hg : goodBytes frame with
  | none => rfl
  | some bytes => exact h bytes (goodBytes_eq_some.mp hg)

/-! ### Bits on the pair -/

@[simp] theorem byteBits_length (x : Byte) : (byteBits x).length = 10 := by simp [byteBits]

theorem slots_length (f : AisleFrame) : f.slots.length = 10 * f.bytes.length := by
  unfold AisleFrame.slots
  induction f.bytes with
  | nil => rfl
  | cons x xs ih =>
    simp only [List.flatMap_cons, List.length_append, ih, List.length_map, byteBits_length, List.length_cons]
    omega

/-- Bit `j` of byte `k` of a run of bytes sent with no gap. -/
theorem byteSlots_getD (bytes : List Byte) (k j : Nat) (hk : k < bytes.length) (hj : j < 10) :
    (bytes.flatMap fun x => (byteBits x).map fun p => ({ de := true, bit := some p } : PairSlot)).getD (10 * k + j) .idle =
      { de := true, bit := some ((byteBits bytes[k])[j]'(by simpa using hj)) } := by
  induction bytes generalizing k with
  | nil => simp at hk
  | cons x xs ih =>
    have hlen : ((byteBits x).map fun p => ({ de := true, bit := some p } : PairSlot)).length = 10 := by simp
    rw [List.flatMap_cons]
    cases k with
    | zero =>
      rw [List.getD_append _ _ _ _ (by omega), Nat.mul_zero, Nat.zero_add, List.getD_eq_getElem _ _ (by omega)]
      simp
    | succ k =>
      rw [List.getD_append_right _ _ _ _ (by omega)]
      simp only [hlen, List.getElem_cons_succ]
      rw [← ih k (by simpa using hk)]
      congr 1
      omega

/-- The driver is enabled in exactly the bit times in which the part sends a bit. -/
theorem sendSlots_de {frames : List AisleFrame} {p : PairSlot} (h : p ∈ sendSlots frames) : p.de = p.bit.isSome := by
  simp only [sendSlots, AisleFrame.slots, List.mem_flatMap, List.mem_append, List.mem_replicate] at h
  obtain ⟨f, _, ⟨_, rfl⟩ | ⟨x, _, h⟩⟩ := h
  · rfl
  · simp only [List.mem_map] at h
    obtain ⟨q, _, rfl⟩ := h
    rfl

/-- The event that the flags of a KEYS answer announce. -/
def eventOf (flags key token since age : Byte) : Option KeyEvent :=
  if flags.getLsbD 0 then
    some { bit := flags.getLsbD 1, key := key.toNat, token := token.toNat, since := since.toNat, age := age.toNat }
  else none

theorem readKeys_withCrc {a : Nat} (ha : a < 256) (flags key token since age : Byte) :
    readKeys a (withCrc [0x91#8, BitVec.ofNat 8 a, flags, key, token, since, age]) =
      some (eventOf flags key token since age) := by
  simp only [withCrc, List.cons_append, List.nil_append, readKeys]
  rw [if_pos ⟨trivial, toNat_byte ha, trivial⟩]
  unfold eventOf
  split <;> rfl

theorem readKeys_none {a : Nat} (ha : a < 256) {frame : List Byte}
    (h : ∀ f k t c g, frame ≠ withCrc [0x91#8, BitVec.ofNat 8 a, f, k, t, c, g]) : readKeys a frame = none := by
  unfold readKeys
  split
  · rename_i kind b flags key token since age crc
    split
    · rename_i hc
      obtain ⟨rfl, hb, rfl⟩ := hc
      rw [byte_of_toNat ha hb] at h
      exact absurd rfl (h flags key token since age)
    · rfl
  · rfl

theorem readIdentity_withCrc {a : Nat} (ha : a < 256) (kind code s0 s1 s2 s3 : Byte) :
    readIdentity kind a (withCrc [kind, BitVec.ofNat 8 a, code, s0, s1, s2, s3]) =
      some { code := code.toNat, serial := s3 ++ s2 ++ s1 ++ s0 } := by
  simp only [withCrc, List.cons_append, List.nil_append, readIdentity]
  rw [if_pos ⟨trivial, toNat_byte ha, trivial⟩]
  rfl

theorem readIdentity_none {a : Nat} (ha : a < 256) {kind : Byte} {frame : List Byte}
    (h : ∀ c s0 s1 s2 s3, frame ≠ withCrc [kind, BitVec.ofNat 8 a, c, s0, s1, s2, s3]) :
    readIdentity kind a frame = none := by
  unfold readIdentity
  split
  · rename_i k b code s0 s1 s2 s3 crc
    split
    · rename_i hc
      obtain ⟨rfl, hb, rfl⟩ := hc
      rw [byte_of_toNat ha hb] at h
      exact absurd rfl (h code s0 s1 s2 s3)
    · rfl
  · rfl

theorem readHere_iff {a : Nat} (ha : a < 256) (frame : List Byte) :
    readHere a frame = true ↔ frame = withCrc [0xA2#8, BitVec.ofNat 8 a] := by
  unfold readHere
  split
  · rename_i k b crc
    simp only [Bool.and_eq_true, beq_iff_eq, withCrc, List.cons_append, List.nil_append, List.cons.injEq, and_true]
    constructor
    · rintro ⟨⟨rfl, hb⟩, rfl⟩
      rw [byte_of_toNat ha hb]
      exact ⟨rfl, rfl, rfl⟩
    · rintro ⟨rfl, rfl, rfl⟩
      exact ⟨⟨rfl, toNat_byte ha⟩, rfl⟩
  · rename_i h
    simp only [Bool.false_eq_true, false_iff]
    exact fun he => h _ _ _ he

end Sys2Proof.Machine
end

