-- ==== Sys2Proof/Laws/Link.lean ====
section
/-! SUPPORT. Requests as the link port takes them, and the steps of a transaction. -/

namespace Sys2Proof.Machine.State

variable (s : State)

/-! ### One request -/

/-- A request that is taken is its owner's execution, with its answer at the end of the reply queue. -/
theorem request_taken (h : s.held = false) (h4 : s.link.replies.length < 4) (f : State → State × Answer) :
    s.request f = { (f s).1 with
      link := { (f s).1.link with replies := (f s).1.link.replies ++ [(f s).2], lastOutcome := .taken } } := by
  simp [request, h, h4]

theorem request_held (h : s.held = true) (f : State → State × Answer) : s.request f = s := by simp [request, h]

theorem request_full (h : s.held = false) (h4 : 4 ≤ s.link.replies.length) (f : State → State × Answer) :
    s.request f = { s with link := { s.link with lastOutcome := .notReady } } := by
  simp [request, h, Nat.not_lt.mpr h4]

/-- Whatever the owner keeps of the fields that are not the link port's, the request keeps. -/
theorem request_keeps {α : Type} (g : State → α) (hg : ∀ (u : State) (x : Link), g { u with link := x } = g u)
    (f : State → State × Answer) (hf : g (f s).1 = g s) : g (s.request f) = g s := by
  unfold request
  split
  · rfl
  · split
    · exact (hg _ _).trans hf
    · exact hg _ _

/-- What no request changes: the queue of commands, the reset, the time, the lines and the strap. -/
@[simp] theorem runRequest_frame (i : Instr) :
    (s.runRequest i).pending = s.pending ∧ (s.runRequest i).held = s.held ∧ (s.runRequest i).now = s.now ∧
    (s.runRequest i).ms0 = s.ms0 ∧ (s.runRequest i).ms1 = s.ms1 ∧ (s.runRequest i).strapMs0 = s.strapMs0 ∧
    (s.runRequest i).strapMs1 = s.strapMs1 ∧ (s.runRequest i).lcs = s.lcs := by
  have key : ∀ f : State → State × Answer,
      (f s).1.pending = s.pending ∧ (f s).1.held = s.held ∧ (f s).1.now = s.now ∧ (f s).1.ms0 = s.ms0 ∧
        (f s).1.ms1 = s.ms1 ∧ (f s).1.strapMs0 = s.strapMs0 ∧ (f s).1.strapMs1 = s.strapMs1 ∧ (f s).1.lcs = s.lcs →
      (s.request f).pending = s.pending ∧ (s.request f).held = s.held ∧ (s.request f).now = s.now ∧
        (s.request f).ms0 = s.ms0 ∧ (s.request f).ms1 = s.ms1 ∧ (s.request f).strapMs0 = s.strapMs0 ∧
        (s.request f).strapMs1 = s.strapMs1 ∧ (s.request f).lcs = s.lcs := by
    rintro f ⟨h1, h2, h3, h4, h5, h6, h7, h8⟩
    exact ⟨s.request_keeps _ (fun _ _ => rfl) f h1, s.request_keeps _ (fun _ _ => rfl) f h2,
      s.request_keeps _ (fun _ _ => rfl) f h3, s.request_keeps _ (fun _ _ => rfl) f h4,
      s.request_keeps _ (fun _ _ => rfl) f h5, s.request_keeps _ (fun _ _ => rfl) f h6,
      s.request_keeps _ (fun _ _ => rfl) f h7, s.request_keeps _ (fun _ _ => rfl) f h8⟩
  cases i <;> first | exact ⟨rfl, rfl, rfl, rfl, rfl, rfl, rfl, rfl⟩ | (refine key _ ?_; simp [resetPart, commandReset])

end Sys2Proof.Machine.State
end

