-- ==== Sys2Proof/Laws/Locations.lean ====
section
/-! SUPPORT. Searching and counting the locations of a bus; request fields as slots, buses and locations. -/

namespace Sys2Proof.Machine

theorem Location.visited_iff (x : Location) : x.visited = true ↔ x.state = .present ∨ x.state = .suspect := by
  simp [Location.visited]

theorem toList_eq_map {α : Type} {n : Nat} (v : Vector α n) : v.toList = (List.finRange n).map fun i => v[i.val] := by
  apply List.ext_getElem <;> simp

namespace State

variable (s : State)

/-- Counting the records of a bus counts its indices. -/
theorem countP_locs (b : Fin 4) (p : Location → Bool) :
    (s.locs[b.val]).toList.countP p = (List.finRange 62).countP fun i => p (s.loc { bus := b, idx := i }) := by
  rw [toList_eq_map, List.countP_map]
  rfl

theorem firstLoc_eq_some {s : State} {b : Fin 4} {k : Nat} {p : Location → Bool} {i : Fin 62} (hk : k ≤ i.val)
    (hi : p (s.loc { bus := b, idx := i }) = true)
    (hj : ∀ j : Fin 62, k ≤ j.val → j < i → p (s.loc { bus := b, idx := j }) = false) : s.firstLoc b k p = some i := by
  unfold firstLoc
  rw [List.find?_eq_some_iff_getElem]
  refine ⟨by simp [hk, hi], i.val, by simp, by simp, fun j hlt => ?_⟩
  simp only [List.getElem_finRange, Bool.not_eq_true', Bool.and_eq_false_iff, decide_eq_false_iff_not]
  exact (Nat.lt_or_ge j k).elim (fun h => .inl (by simpa using h)) fun h => .inr (hj _ (by simpa using h) hlt)

theorem firstLoc_eq_none {s : State} {b : Fin 4} {k : Nat} {p : Location → Bool}
    (h : ∀ j : Fin 62, k ≤ j.val → p (s.loc { bus := b, idx := j }) = false) : s.firstLoc b k p = none := by
  unfold firstLoc
  rw [List.find?_eq_none]
  intro j _
  by_cases hk : k ≤ j.val <;> simp [hk]
  exact h j hk

/-- A location that `firstLoc` finds has the property. -/
theorem firstLoc_prop {s : State} {b : Fin 4} {k : Nat} {p : Location → Bool} {i : Fin 62}
    (h : s.firstLoc b k p = some i) : p (s.loc { bus := b, idx := i }) = true := by
  have := List.find?_some h
  simp only [Bool.and_eq_true] at this
  exact this.2

/-! ### Request fields -/

@[simp] theorem slotOf_val (i : Fin 8) : slotOf i.val = some i := by simp [slotOf]

@[simp] theorem busOf_val (b : Fin 4) : busOf b.val = some b := by simp [busOf]

@[simp] theorem idxOf_node (l : Loc) : idxOf l.node = some l.idx := by simp [idxOf, Loc.node]

theorem slotOf_none {n : Nat} (h : 7 < n) : slotOf n = none := by
  simp [slotOf]
  omega

theorem busOf_none {n : Nat} (h : 3 < n) : busOf n = none := by
  simp [busOf]
  omega

theorem busesInService_le : s.busesInService ≤ 4 := by
  have := Bool.toNat_le s.strapMs0
  have := Bool.toNat_le s.strapMs1
  unfold busesInService
  omega

theorem serviceBus_val {s : State} {b : Fin 4} (h : s.inService b = true) : s.serviceBus b.val = some b := by
  simp [serviceBus, Option.filter, h]

theorem serviceBus_none {s : State} {n : Nat} (h : s.busesInService ≤ n) : s.serviceBus n = none := by
  unfold serviceBus busOf
  split
  · simp [Option.filter, inService]
    omega
  · rfl

theorem locOf_val {s : State} {l : Loc} (h : s.inService l.bus = true) : s.locOf l.bus.val l.node = some l := by
  simp [locOf, serviceBus_val h]

end State

end Sys2Proof.Machine
end

