-- ==== Sys2Proof/Laws/Notices.lean ====
section
/-! SUPPORT. What offering a notice to the report queue can do (R151, R152, R155). -/

namespace Sys2Proof.Machine

/-- A joining entry is added to the entries of the queue. -/
theorem mem_insertEntry (e x : Entry) (q : List Entry) : x ∈ insertEntry e q ↔ x = e ∨ x ∈ q := by
  have h := List.takeWhile_append_dropWhile (p := fun x : Entry => decide (e.priority ≤ x.priority)) (l := q)
  unfold insertEntry
  rw [List.mem_append, List.mem_cons]
  conv_rhs => rw [← h, List.mem_append]
  tauto

theorem length_insertEntry (e : Entry) (q : List Entry) : (insertEntry e q).length = q.length + 1 := by
  have h := congrArg List.length
    (List.takeWhile_append_dropWhile (p := fun x : Entry => decide (e.priority ≤ x.priority)) (l := q))
  simp only [List.length_append] at h
  simp only [insertEntry, List.length_append, List.length_cons]
  omega

/-- The victim is one of the entries that are not in transmission. -/
theorem NoticeQueue.victim_mem {q : NoticeQueue} {v : Entry} (h : q.victim = some v) :
    v ∈ q.entries ∧ q.transmitting ≠ some v.age := by
  have key : ∀ (es : List Entry) (e : Entry), es.foldl dropFirst e ∈ e :: es := by
    intro es
    induction es with
    | nil => simp
    | cons a es ih =>
      intro e
      have := ih (dropFirst e a)
      rw [List.foldl_cons]
      unfold dropFirst at this ⊢
      split at this <;> rename_i hc <;> simp only [hc, if_true, if_false, List.mem_cons] at this ⊢ <;> tauto
  unfold victim at h
  have hd : v ∈ q.droppable := by
    cases hq : q.droppable with
    | nil => simp [hq] at h
    | cons e es =>
      simp only [hq, Option.some.injEq] at h
      exact h ▸ key es e
  simp only [droppable, List.mem_filter, bne_iff_ne, ne_eq] at hd
  exact ⟨hd.1, fun he => hd.2 he.symm⟩

/-- The victim has the lowest priority of the droppable entries, and is the youngest of that priority. -/
theorem NoticeQueue.victim_least {q : NoticeQueue} {v : Entry} (h : q.victim = some v) :
    ∀ x ∈ q.droppable, v.priority < x.priority ∨ (v.priority = x.priority ∧ x.age ≤ v.age) := by
  have key : ∀ (es : List Entry) (e : Entry), ∀ x ∈ e :: es,
      (es.foldl dropFirst e).priority < x.priority ∨
        ((es.foldl dropFirst e).priority = x.priority ∧ x.age ≤ (es.foldl dropFirst e).age) := by
    intro es
    induction es with
    | nil => simp
    | cons a es ih =>
      intro e x hx
      have h1 := ih (dropFirst e a) (dropFirst e a) (by simp)
      rw [List.foldl_cons]
      have h2 : ∀ y, y = e ∨ y = a → (dropFirst e a).priority < y.priority ∨
          ((dropFirst e a).priority = y.priority ∧ y.age ≤ (dropFirst e a).age) := by
        rintro y (rfl | rfl) <;> unfold dropFirst <;> split <;> omega
      rcases List.mem_cons.mp hx with rfl | hx
      · have := h2 x (.inl rfl); omega
      · rcases List.mem_cons.mp hx with rfl | hx
        · have := h2 x (.inr rfl); omega
        · exact ih _ x (List.mem_cons_of_mem _ hx)
  unfold victim at h
  cases hq : q.droppable with
  | nil => simp [hq] at h
  | cons e es =>
    simp only [hq, Option.some.injEq] at h
    exact h ▸ key es e

/-- What an offer can do: the entry joins a queue with room; or it joins in place of a droppable entry of lower priority; or it
is dropped itself. -/
theorem NoticeQueue.offer_cases (q : NoticeQueue) (e : Entry) :
    (q.entries.length < 32 ∧ q.offer e = (q.join e, false)) ∨
    (∃ v, 32 ≤ q.entries.length ∧ q.victim = some v ∧ v.priority < e.priority ∧
      q.offer e = (NoticeQueue.join { q with entries := (q.entries.filter fun x => x.age != v.age), lost := true } e, true)) ∨
    (32 ≤ q.entries.length ∧ (∀ v, q.victim = some v → e.priority ≤ v.priority) ∧
      q.offer e = ({ q with lost := true }, true)) := by
  unfold offer
  by_cases h : q.entries.length < 32
  · exact .inl ⟨h, if_pos h⟩
  · rw [if_neg h]
    cases hv : q.victim with
    | none => exact .inr (.inr ⟨Nat.le_of_not_lt h, by simp, rfl⟩)
    | some v =>
      by_cases hp : v.priority < e.priority
      · exact .inr (.inl ⟨v, Nat.le_of_not_lt h, rfl, hp, if_pos hp⟩)
      · refine .inr (.inr ⟨Nat.le_of_not_lt h, ?_, if_neg hp⟩)
        rintro w ⟨⟩
        exact Nat.le_of_not_lt hp

/-- A call for a notice: nothing at priority 0, else one offer, and a drop clears the shown mark (R151, R161). -/
theorem State.queueNotice_eq (s : State) (n : Notice) (c : Option Nat) :
    s.queueNotice n c =
      if s.notices.classes.get n.cls = 0 then s
      else
        let r := s.notices.offer { notice := n, priority := s.notices.classes.get n.cls, stamp := s.now % 65536,
                                   age := s.notices.nextAge, closure := c }
        { s with notices := r.1, link := { s.link with shown := s.link.shown && !r.2 } } := rfl

end Sys2Proof.Machine
end

