-- ==== Sys2Proof/Laws/PerInstr.lean ====
section
/-! SUPPORT. What holds of every command as syntax, one lemma per constructor. -/

namespace Sys2Proof.Laws.Encoding

/-- A command that is a request of R169 is written with a kind below 0x80 and a body of the fixed length of that kind (R164, R169,
R178). -/
def Statement (i : Instr) : Prop :=
  ∀ kind body, encodeRequest i = some (kind, body) →
    requestLength kind = some body.length ∧ recognisedKind kind = true ∧ kind < 0x80

theorem powerOnReset : Statement .powerOnReset := by
  rintro kind body h
  cases h

theorem rstnReset : Statement .rstnReset := by
  rintro kind body h
  cases h

theorem resetRelease : Statement .resetRelease := by
  rintro kind body h
  cases h

theorem darkLamptestChange (dark lamptest : Bool) : Statement (.darkLamptestChange dark lamptest) := by
  rintro kind body h
  cases h

theorem lcsFall : Statement .lcsFall := by
  rintro kind body h
  cases h

theorem statusByteComplete (wave : List LinkPins) : Statement (.statusByteComplete wave) := by
  rintro kind body h
  cases h

theorem lcsRise (wave : List LinkPins) : Statement (.lcsRise wave) := by
  rintro kind body h
  cases h

theorem unknownRequest (kind : Nat) : Statement (.unknownRequest kind) := by
  rintro kind body h
  cases h

theorem partStatus : Statement .partStatus := by
  rintro kind body h
  cases h
  exact ⟨rfl, rfl, by decide⟩

theorem resetPart : Statement .resetPart := by
  rintro kind body h
  cases h
  exact ⟨rfl, rfl, by decide⟩

theorem setClass (cls priority : Nat) : Statement (.setClass cls priority) := by
  rintro kind body h
  cases h
  exact ⟨rfl, rfl, by decide⟩

theorem setMask (level : Nat) : Statement (.setMask level) := by
  rintro kind body h
  cases h
  exact ⟨rfl, rfl, by decide⟩

theorem setTiming (cycle minDwell guard hold linger : Nat) : Statement (.setTiming cycle minDwell guard hold linger) := by
  rintro kind body h
  cases h
  exact ⟨rfl, rfl, by decide⟩

theorem setSweep (bus period : Nat) : Statement (.setSweep bus period) := by
  rintro kind body h
  cases h
  exact ⟨rfl, rfl, by decide⟩

theorem setFeed (bus capacity mode : Nat) : Statement (.setFeed bus capacity mode) := by
  rintro kind body h
  cases h
  exact ⟨rfl, rfl, by decide⟩

theorem enrol (bus : Nat) : Statement (.enrol bus) := by
  rintro kind body h
  cases h
  exact ⟨rfl, rfl, by decide⟩

theorem resetBus (bus : Nat) : Statement (.resetBus bus) := by
  rintro kind body h
  cases h
  exact ⟨rfl, rfl, by decide⟩

theorem queryBus (bus : Nat) : Statement (.queryBus bus) := by
  rintro kind body h
  cases h
  exact ⟨rfl, rfl, by decide⟩

theorem queryLocation (bus node : Nat) : Statement (.queryLocation bus node) := by
  rintro kind body h
  cases h
  exact ⟨rfl, rfl, by decide⟩

theorem directSet (bus node colour char0 char1 char2 blink : Nat) : Statement (.directSet bus node colour char0 char1 char2 blink) := by
  rintro kind body h
  cases h
  exact ⟨rfl, rfl, by decide⟩

theorem directEnd (bus node : Nat) : Statement (.directEnd bus node) := by
  rintro kind body h
  cases h
  exact ⟨rfl, rfl, by decide⟩

theorem openSession (slot colour priority : Nat) : Statement (.openSession slot colour priority) := by
  rintro kind body h
  cases h
  exact ⟨rfl, rfl, by decide⟩

theorem grant (slot bus first last : Nat) : Statement (.grant slot bus first last) := by
  rintro kind body h
  cases h
  exact ⟨rfl, rfl, by decide⟩

theorem revoke (slot index : Nat) : Statement (.revoke slot index) := by
  rintro kind body h
  cases h
  exact ⟨rfl, rfl, by decide⟩

theorem setPriority (slot priority : Nat) : Statement (.setPriority slot priority) := by
  rintro kind body h
  cases h
  exact ⟨rfl, rfl, by decide⟩

theorem suspend (slot : Nat) : Statement (.suspend slot) := by
  rintro kind body h
  cases h
  exact ⟨rfl, rfl, by decide⟩

theorem resume (slot : Nat) : Statement (.resume slot) := by
  rintro kind body h
  cases h
  exact ⟨rfl, rfl, by decide⟩

theorem closeSession (slot : Nat) : Statement (.closeSession slot) := by
  rintro kind body h
  cases h
  exact ⟨rfl, rfl, by decide⟩

theorem querySession (slot : Nat) : Statement (.querySession slot) := by
  rintro kind body h
  cases h
  exact ⟨rfl, rfl, by decide⟩

theorem postTask (id slot bus node requested shortMode pred : Nat) : Statement (.postTask id slot bus node requested shortMode pred) := by
  rintro kind body h
  cases h
  exact ⟨rfl, rfl, by decide⟩

theorem amendTask (id requested : Nat) : Statement (.amendTask id requested) := by
  rintro kind body h
  cases h
  exact ⟨rfl, rfl, by decide⟩

theorem withdrawTask (id cascade : Nat) : Statement (.withdrawTask id cascade) := by
  rintro kind body h
  cases h
  exact ⟨rfl, rfl, by decide⟩

theorem queryTask (id : Nat) : Statement (.queryTask id) := by
  rintro kind body h
  cases h
  exact ⟨rfl, rfl, by decide⟩

theorem sweepStart (bus : Fin 4) : Statement (.sweepStart bus) := by
  rintro kind body h
  cases h

theorem keysAnswer (bus : Fin 4) (frame : List PairByte) : Statement (.keysAnswer bus frame) := by
  rintro kind body h
  cases h

theorem keysWindowExpiry (bus : Fin 4) : Statement (.keysWindowExpiry bus) := by
  rintro kind body h
  cases h

theorem identifyReply (bus : Fin 4) (frame : List PairByte) : Statement (.identifyReply bus frame) := by
  rintro kind body h
  cases h

theorem identifyWindowExpiry (bus : Fin 4) : Statement (.identifyWindowExpiry bus) := by
  rintro kind body h
  cases h

theorem hereAnswer (bus : Fin 4) (frame : List PairByte) : Statement (.hereAnswer bus frame) := by
  rintro kind body h
  cases h

theorem hereWindowExpiry (bus : Fin 4) : Statement (.hereWindowExpiry bus) := by
  rintro kind body h
  cases h

theorem enrLowEnd (bus : Fin 4) : Statement (.enrLowEnd bus) := by
  rintro kind body h
  cases h

theorem takenAnswer (bus : Fin 4) (frame : List PairByte) : Statement (.takenAnswer bus frame) := by
  rintro kind body h
  cases h

theorem takenWindowExpiry (bus : Fin 4) : Statement (.takenWindowExpiry bus) := by
  rintro kind body h
  cases h

theorem enrolWaitEnd (bus : Fin 4) : Statement (.enrolWaitEnd bus) := by
  rintro kind body h
  cases h

theorem resettingEnd (bus : Fin 4) : Statement (.resettingEnd bus) := by
  rintro kind body h
  cases h

theorem sampleStart (bus : Fin 4) : Statement (.sampleStart bus) := by
  rintro kind body h
  cases h

theorem sampleComplete (bus : Fin 4) (supply : Nat) : Statement (.sampleComplete bus supply) := by
  rintro kind body h
  cases h

theorem phaseFlip (bus : Fin 4) : Statement (.phaseFlip bus) := by
  rintro kind body h
  cases h

end Sys2Proof.Laws.Encoding
end

