-- ==== Sys2Proof/Laws/Sweep.lean ====
section
/-! SUPPORT. How a sweep goes on: each part sends one frame or hands over to the next (R115, R119, R120, R122). -/

namespace Sys2Proof.Machine.State

variable (s : State)

/-- The refill probe sends LOOK for the one LOST location, or the sweep closes. -/
theorem refillPart_cases (b : Fin 4) (close : State → State) :
    (∃ i, s.refillPart b close = s.sendFrames b [.look i.val] (.probeLook i)) ∨ s.refillPart b close = close s := by
  unfold refillPart
  split
  · rename_i i _
    split
    · exact .inl ⟨i, rfl⟩
    · exact .inr rfl
  · exact .inr rfl

/-- The poll sends IDENTIFY, or the refill probe follows. -/
theorem pollPart_cases (b : Fin 4) (k : Nat) (close : State → State) :
    (∃ i, s.pollPart b k close = s.sendFrames b [.identify (i.val + 1)] (.poll i)) ∨
    (∃ i, s.pollPart b k close = s.sendFrames b [.look i.val] (.probeLook i)) ∨ s.pollPart b k close = close s := by
  unfold pollPart
  split
  · split
    · rename_i i _
      exact .inl ⟨i, rfl⟩
    · exact .inr (s.refillPart_cases b close)
  · exact .inr (s.refillPart_cases b close)

/-- A sweep goes on with an attempt at a location it visits, a poll, a probe, or its close. -/
theorem visitPart_cases (b : Fin 4) (k : Nat) (close : State → State) :
    (∃ i, (s.loc { bus := b, idx := i }).visited = true ∧
      s.visitPart b k close = s.attempt { bus := b, idx := i } false) ∨
    (∃ i, s.visitPart b k close = s.sendFrames b [.identify (i.val + 1)] (.poll i)) ∨
    (∃ i, s.visitPart b k close = s.sendFrames b [.look i.val] (.probeLook i)) ∨ s.visitPart b k close = close s := by
  unfold visitPart
  split
  · rename_i i h
    exact .inl ⟨i, firstLoc_prop h, rfl⟩
  · exact .inr (s.pollPart_cases b 0 close)

/-- The bus as a sweep start leaves it before the first exchange (R114, R115). -/
def startedBus (b : Fin 4) : Bus :=
  { s.bus b with counter := ((s.bus b).counter + 1) % 256, scheduled := none, sweepStart := s.now, sweepVisited := false,
                 sweepGood := false }

theorem beginSweep_eq (b : Fin 4) :
    s.beginSweep b = ((s.setBus b (s.startedBus b)).governSweep b).visitPart b 0 fun u => u.closeSweep b := rfl

/-- After an exchange of a sweep the walk that waits starts, else the sweep goes on. -/
theorem afterExchange_cases (b : Fin 4) (go : State → State) :
    ((s.bus b).state = .enrolling ∧ s.afterExchange b go = s.startRelease b) ∨
    ((s.bus b).state ≠ .enrolling ∧ s.afterExchange b go = go s) := by
  unfold afterExchange
  split
  · exact .inl ⟨‹_›, rfl⟩
  · exact .inr ⟨‹_›, rfl⟩

/-- What the end of a sweep leaves of the bus (R114, R118, R121). -/
theorem closeSweep_bus (b : Fin 4) : (s.closeSweep b).bus b =
    { s.bus b with
      exchange := .none, lastDuration := min 65535 (s.now - (s.bus b).sweepStart),
      silent := (s.bus b).silent || ((s.bus b).sweepVisited && !(s.bus b).sweepGood),
      ambiguous := decide (2 ≤ s.countPresence b .lost),
      scheduled := some ((s.bus b).sweepStart + (s.bus b).period) } := by
  unfold closeSweep
  simp

@[simp] theorem closeSweep_now (b : Fin 4) : (s.closeSweep b).now = s.now := by
  unfold closeSweep
  simp

/-- The end of a sweep, and the next sweep at once if it is due (R114). -/
theorem endSweep_cases (b : Fin 4) :
    s.endSweep b = s.closeSweep b ∨ s.endSweep b = (s.closeSweep b).beginSweep b := by
  unfold endSweep
  simp only []
  split
  · exact .inr rfl
  · exact .inl rfl

end Sys2Proof.Machine.State
end

