-- ==== Sys2Proof/Tests/Slice0.lean ====
section
/-! SUPPORT. Tests of single commands against the spec's worked examples, the smoke test of WellFormed, and for every statement with
hypotheses the concrete states and operands that meet them (theorems `witness_…`). -/

namespace Sys2Proof.Tests

open Sys2Proof Sys2Proof.Machine Sys2Proof.Claims

/-! ### Small states -/

/-- A location of bus A. -/
def at' (i : Fin 62) : Loc := { bus := 0, idx := i }

/-- A location record with a module of the kind. -/
def fitted (kind : ModuleKind) : Location := { Location.initial with state := .present, kind := some kind, serial := some 7 }

/-- Bus A in SERVICE at instant 60, its sweep due, one DISPLAY module at A1. -/
def serving : State :=
  (({ State.reset with now := 60 }.setBus 0 { Bus.initial .service with scheduled := some 60 }).setFeed 0
    { Feed.initial (some 2000) with level := 12, switchClosed := true }).setLoc (at' 0) (fitted .display)

/-- Session 1 BLUE and ACTIVE on A1 to A20; session 2 GREEN and SUSPENDED on A1 to A10. -/
def staffed : State :=
  (serving.setSession 1 { state := .active, colour := some .blue, priority := some 1, ranges := [{ bus := 0, first := 1, last := 20 }],
                          pending := [] }).setSession 2
    { state := .suspended, colour := some .green, priority := some 0, ranges := [{ bus := 0, first := 1, last := 10 }], pending := [] }

/-- An OPEN task at A1. -/
def pick (id : Nat) (slot : Fin 8) : Task :=
  { id := id, slot := slot, loc := at' 0, requested := 6, picked := 0, offered := 6, shortMode := .close, state := .opened,
    outcome := none, pred := none, succ := none, amended := none, closure := none }

/-- A CLOSED task of session 1. -/
def done (id : Nat) : Task :=
  { pick id 1 with picked := 6, offered := 0, state := .closed, outcome := some .done, closure := some 0 }

/-- The state with the tasks, those that are live in the list of A1. -/
def working (ts : List Task) : State :=
  { staffed with tasks := ts, closures := 1 }.setLoc (at' 0)
    { fitted .display with tasks := (ts.filter Task.live).map Task.id }

/-- A chain of two tasks of session 1 at A1. -/
def chained : State :=
  working [{ pick 700 1 with succ := some 701 }, { pick 701 1 with state := .waiting, pred := some 700 }]

/-- A state with a visit to A1 in progress. -/
def visiting (s : State) : State := s.setBus 0 { s.bus 0 with exchange := .visit 0 false, scheduled := none }

/-- A state whose bus A has the exchange in progress. -/
def during (s : State) (x : Exchange) (state : BusState := .service) : State :=
  s.setBus 0 { s.bus 0 with exchange := x, state := state, scheduled := none }

/-- An entry of the report queue. -/
def entry (priority age : Nat) : Entry :=
  { notice := .bus 0 .silent none, priority := priority, stamp := 0, age := age, closure := none }

/-- The state with the entries in its report queue. -/
def reporting (s : State) (es : List Entry) : State := { s with notices := { s.notices with entries := es, nextAge := 99 } }

/-- Whether the command answers a next state with the property. -/
def gives (c : Instr) (s : State) (p : State → Bool) : Bool :=
  match exec c s with
  | .next t => p t
  | .fault _ => false
  | .refused _ => false

/-- The bytes of some numbers. -/
def bytes (ns : List Nat) : List Byte := ns.map (BitVec.ofNat 8)

/-- A KEYS answer of A1 with an event (R179). -/
def keys (bit : Bool) (key token since age : Nat) : List Byte := withCrc (bytes [0x91, 1, 1 + 2 * bit.toNat, key, token, since, age])

/-- The result of the last answer. -/
def lastResult (s : State) : Option (Nat × Reason × List Field) :=
  s.link.replies.getLast?.map fun a => (a.kind, a.result, a.fields)

/-- The notices of the report queue. -/
def notices (s : State) : List Notice := s.notices.entries.map Entry.notice

/-! ### WellFormed -/

/-- Each check refuses an ill-formed command. -/
theorem test_wf_refuses :
    [Instr.unknownRequest 0, .unknownRequest 256, .unknownRequest 1, .unknownRequest 7, .unknownRequest 0x10, .unknownRequest 0x15,
      .unknownRequest 0x20, .unknownRequest 0x27, .unknownRequest 0x30, .unknownRequest 0x33, .setClass 256 0, .setClass 0 256,
      .setMask 256, .setTiming 65536 0 0 0 0, .setTiming 0 65536 0 0 0, .setTiming 0 0 65536 0 0, .setTiming 0 0 0 65536 0,
      .setTiming 0 0 0 0 65536, .setSweep 256 0, .setSweep 0 65536, .setFeed 256 0 0, .setFeed 0 65536 0, .setFeed 0 0 256,
      .enrol 256, .resetBus 256, .queryBus 256, .queryLocation 256 0, .queryLocation 0 256, .directSet 256 0 0 0 0 0 0,
      .directSet 0 256 0 0 0 0 0, .directSet 0 0 256 0 0 0 0, .directSet 0 0 0 256 0 0 0, .directSet 0 0 0 0 256 0 0,
      .directSet 0 0 0 0 0 256 0, .directSet 0 0 0 0 0 0 256, .directEnd 256 0, .directEnd 0 256].any Instr.wf = false := by decide

theorem test_wf_refuses_more :
    [Instr.openSession 256 0 0, .openSession 0 256 0, .openSession 0 0 256, .grant 256 0 0 0, .grant 0 256 0 0, .grant 0 0 256 0,
      .grant 0 0 0 256, .revoke 256 0, .revoke 0 256, .setPriority 256 0, .setPriority 0 256, .suspend 256, .resume 256,
      .closeSession 256, .querySession 256, .postTask 65536 0 0 0 0 0 0, .postTask 0 256 0 0 0 0 0, .postTask 0 0 256 0 0 0 0,
      .postTask 0 0 0 256 0 0 0, .postTask 0 0 0 0 65536 0 0, .postTask 0 0 0 0 0 256 0, .postTask 0 0 0 0 0 0 65536,
      .amendTask 65536 0, .amendTask 0 65536, .withdrawTask 65536 0, .withdrawTask 0 256, .queryTask 65536].any Instr.wf = false := by
  decide

/-- Every field may take its largest value. -/
theorem test_wf_accepts :
    [Instr.unknownRequest 8, .unknownRequest 255, .setTiming 65535 65535 65535 65535 65535, .setFeed 255 65535 255,
      .postTask 65535 255 255 255 65535 255 65535, .grant 255 255 255 255].all Instr.wf = true := by decide

/-! ### Formats (10.6) -/

theorem test_crc_release : AisleFrame.release.bytes = bytes [0x20, 0xE0] := by decide

theorem test_crc_take_1 : (AisleFrame.take 1).bytes = bytes [0x21, 0x01, 0xBC] := by decide +kernel

theorem test_post_task_700_bytes :
    requestBytes (.postTask 700 1 0 5 6 0 0) = bytes [0x30, 0x0A, 0xBC, 0x02, 0x01, 0x00, 0x05, 0x06, 0x00, 0x00, 0x00, 0x00] := by
  decide

theorem test_task_closed_700_bytes :
    Entry.bytes { notice := .taskClosed 700 1 { bus := 0, idx := 4 } .done 6 6, priority := 3, stamp := 8000, age := 0,
                  closure := some 0 } =
      bytes [0x41, 0x0C, 0x40, 0x1F, 0xBC, 0x02, 0x01, 0x00, 0x05, 0x00, 0x06, 0x00, 0x06, 0x00] := by decide

/-- LAST TAKEN, REPLIES 1, a sendable notice, LOST clear give 0x4D. -/
theorem test_status_byte_4D :
    (reporting { State.reset with link := { Link.initial with replies := [answerOf 0x31 .ok []], lastOutcome := .taken } }
      [entry 3 0]).statusByte = 0x4D#8 := by decide

/-! ### Resets, lines and transactions -/

theorem test_release_latches_two_buses :
    gives .resetRelease { State.reset with held := true, ms0 := true, ms1 := false } (fun t =>
      decide (t.busesInService = 2 ∧ (t.bus 1).state = .unpowered ∧ (t.bus 2).state = .off ∧ (t.feed 1).next = some 0 ∧
        (t.feed 2).next = none)) = true := by decide

theorem test_reset_holds_the_part :
    gives .rstnReset (working [pick 700 1]) (fun t => t.held && t.tasks.isEmpty && !t.rdy) = true := by decide

theorem test_power_on_holds_the_part :
    gives .powerOnReset (working [pick 700 1]) (fun t => t.held && decide (t.now = 0) && !t.attn) = true := by decide

theorem test_lines_take_their_levels :
    gives (.darkLamptestChange false true) State.reset (fun t => !t.ms0 && t.ms1) = true := by decide

/-- 9.7, T1: the notice goes out, for no answer waits. -/
theorem test_fall_takes_the_notice :
    gives .lcsFall (reporting State.reset [entry 3 0, entry 2 1]) (fun t =>
      decide (t.link.outbound = some (.notice (entry 3 0)) ∧ t.notices.transmitting = some 0 ∧ t.link.status = 0x05#8)) = true := by
  decide

/-- 8.7, step 3: the byte shows LOST and clears it. -/
theorem test_first_byte_clears_lost :
    gives (.statusByteComplete (linkWave [0#8])) { State.reset with
      link := { Link.initial with outbound := some .empty, shown := true },
      notices := { NoticeQueue.initial with lost := true } } (fun t => !t.notices.lost) = true := by decide

/-- R162: LDI counts at the rising edges of LCK alone, most significant bit first, and the ninth bit is no byte. -/
theorem test_ldi_samples_rising_edges :
    ldiBytes false ((linkWave [0x33#8]).flatMap fun p => [{ p with ldi := p.ldi != p.lck }, p, { p with ldi := !p.ldi }]) = [0xCC#8] ∧
    ldiBytes false (linkWave [0x33#8] ++ [{ lck := false, ldi := false }, { lck := true, ldi := true }]) = [0x33#8] ∧
    risingBits false (linkWave [0x33#8]) = [false, false, true, true, false, false, true, true] := by decide

/-- 9.7, T4: kind and length without the body are SHORT. -/
theorem test_rise_short :
    gives (.lcsRise (linkWave [2#8])) { State.reset with
      lcs := false, link := { Link.initial with request := [0x33#8], readySample := true, outbound := some .empty } }
      (fun t => decide (t.link.lastOutcome = .short ∧ t.link.replies = [])) = true := by decide

/-- 9.7, T1: AMEND_TASK 880 to 12 in full, with picked 7, becomes 12 / 7 / 5. -/
theorem test_rise_amends_880 :
    gives (.lcsRise (linkWave (bytes [4, 0x70, 0x03, 12, 0])))
      { working [{ pick 880 1 with requested := 10, picked := 7, offered := 3, shortMode := .keep }] with
        lcs := false, link := { Link.initial with request := [0x31#8], readySample := true, outbound := some .empty } }
      (fun t => decide (lastResult t = some (0xB1, .ok, [.u16 12, .u16 7, .u16 5, .u8 0]) ∧ t.link.lastOutcome = .taken)) = true := by
  decide

/-! ### Requests of the link port, the notice queue and the scheduler -/

theorem test_unknown_kind :
    gives (.unknownRequest 0x08) State.reset (fun t => decide (lastResult t = some (0x80, .badKind, [.u8 8]))) = true := by decide

theorem test_part_status :
    gives .partStatus (working [pick 700 1, done 907]) (fun t => decide (lastResult t = some (0x81, .ok,
      [.u8 0x2B, .u16 0x0A14, .u8 1, .u8 4, .u8 2, .u16 2, .u16 1, .u8 0]))) = true := by decide

theorem test_reset_part :
    gives .resetPart (working [pick 700 1]) (fun t => decide (t.tasks = [] ∧ (t.bus 0).state = .resetting ∧
      (t.bus 3).resettingEnd = some 560 ∧ t.now = 60 ∧ lastResult t = some (0x82, .ok, []))) = true := by decide

theorem test_set_class_clamps :
    gives (.setClass 5 9) State.reset (fun t => decide (lastResult t = some (0x83, .ok, [.u8 5, .u8 3, .u8 1]))) = true := by decide

/-- 8.7, step 4 in small: above and at or below the mask. -/
theorem test_set_mask_counts :
    gives (.setMask 2) (reporting State.reset [entry 3 0, entry 2 1, entry 1 2])
      (fun t => decide (lastResult t = some (0x84, .ok, [.u8 2, .u8 1, .u8 2]))) = true := by decide

theorem test_set_timing_clamps :
    gives (.setTiming 0 2000 500 1000 65535) State.reset (fun t => decide (lastResult t = some (0x85, .ok,
      [.u16 800, .u16 1000, .u16 400, .u16 1000, .u16 2000]))) = true := by decide

theorem test_set_sweep_clamps :
    gives (.setSweep 0 10) State.reset (fun t => decide ((t.bus 0).period = 20)) = true := by decide

theorem test_set_feed :
    gives (.setFeed 0 200 2) serving (fun t => decide ((t.governor 0).capacity = 2000 ∧ (t.feed 0).mode = .continuous ∧
      (t.feed 0).next = some 60)) = true := by decide

theorem test_query_bus :
    gives (.queryBus 0) serving (fun t => decide (lastResult t = some (0x92, .ok, [.u8 0, .u8 4, .u16 60, .u16 0, .u8 61, .u8 1, .u8 0,
      .u8 0, .u8 0, .u8 0, .u8 0, .u8 1, .u8 0, .u8 12, .u8 0, .u8 0, .u8 0, .u8 0]))) = true := by decide

theorem test_query_location_off_bus :
    gives (.queryLocation 2 5) { State.reset with strapMs1 := false }
      (fun t => decide (lastResult t = some (0x93, .noLocation, []))) = true := by decide

theorem test_query_location :
    gives (.queryLocation 0 2) State.reset (fun t => decide (lastResult t = some (0x93, .ok, [.u8 0, .u8 2, .u8 0, .u8 0, .u8 0, .u8 0,
      .u8 1, .u8 0, .u8 0, .u8 0, .u8 10, .u8 10, .u8 10, .u8 0, .u8 0, .u8 0, .u8 0, .u8 0, .u8 0]))) = true := by decide

/-- 3.12, instant 20. -/
theorem test_direct_set_marks :
    gives (.directSet 0 1 4 10 10 10 1) serving (fun t => decide ((t.loc (at' 0)).rot.direct =
      some { colour := some .yellow, chars := Chars.blank, blink := .slow } ∧ (t.loc (at' 0)).rot.fresh = true)) = true := by decide

theorem test_direct_end_without_pattern :
    gives (.directEnd 0 1) serving (fun t => decide (lastResult t = some (0x95, .locationState, []))) = true := by decide

/-! ### Bus requests -/

theorem test_enrol_counts_and_releases :
    gives (.enrol 0) serving (fun t => decide (lastResult t = some (0x90, .ok, [.u8 1]) ∧ (t.bus 0).state = .enrolling ∧
      (t.bus 0).sent = [.release, .release] ∧ (t.bus 0).enrLowEnd = some 110)) = true := by decide

theorem test_enrol_waits_for_the_visit :
    gives (.enrol 0) (visiting serving) (fun t => decide ((t.bus 0).state = .enrolling ∧ (t.bus 0).exchange = .visit 0 false ∧
      (t.bus 0).enrLowEnd = none)) = true := by decide

theorem test_reset_bus_opens_the_feed :
    gives (.resetBus 0) serving (fun t => decide (lastResult t = some (0x91, .ok, [.u8 4]) ∧ (t.bus 0).state = .resetting ∧
      (t.bus 0).resettingEnd = some 560 ∧ t.fsw 0 = false)) = true := by decide

/-! ### Session requests (1.8) -/

theorem test_open_session :
    gives (.openSession 0 1 1) State.reset (fun t => decide (lastResult t = some (0xA0, .ok, [.u8 0]) ∧
      (t.session 0).colour = some .red)) = true := by decide

/-- 1.8, step 5: RED on A10 to A40 keeps RED off A35 to A50. -/
theorem test_grant_clash :
    gives (.grant 4 0 35 50)
      ((State.reset.setSession 0 { state := .active, colour := some .red, priority := some 1,
                                   ranges := [{ bus := 0, first := 10, last := 40 }], pending := [] }).setSession 4
        { state := .active, colour := some .red, priority := some 0, ranges := [], pending := [] })
      (fun t => decide (lastResult t = some (0xA1, .colourClash, [.u8 0]))) = true := by decide

theorem test_grant_index :
    gives (.grant 1 1 1 30) staffed (fun t => decide (lastResult t = some (0xA1, .ok, [.u8 1]))) = true := by decide

theorem test_revoke_keeps_tasks :
    gives (.revoke 1 0) (working [pick 700 1]) (fun t => decide (lastResult t = some (0xA2, .tasksPresent, [.u16 1]))) = true := by
  decide

theorem test_set_priority_answers_the_old :
    gives (.setPriority 1 3) staffed (fun t => decide (lastResult t = some (0xA3, .ok, [.u8 1]))) = true := by decide

theorem test_suspend_counts_tasks :
    gives (.suspend 1) chained (fun t => decide (lastResult t = some (0xA4, .ok, [.u16 2]) ∧ (t.session 1).state = .suspended)) = true :=
  by decide

/-- 1.9, entries 3 and 4 in small: the first closes the task, the second finds it closed. -/
theorem test_resume_applies_and_declines :
    gives (.resume 2) ((working [pick 517 2]).setSession 2 { staffed.session 2 with
        pending := [{ task := 517, offered := 6, press := 40 }, { task := 517, offered := 6, press := 50 }] })
      (fun t => decide (lastResult t = some (0xA5, .ok, [.u8 1, .u8 1]) ∧
        notices t = [.taskClosed 517 2 (at' 0) .done 6 6, .press (at' 0) .confirm .late (some 517) (some 2)])) = true := by decide

theorem test_close_session_frees :
    gives (.closeSession 1) chained (fun t => decide (lastResult t = some (0xA6, .ok, [.u16 2, .u8 0]) ∧ t.tasks = [] ∧
      (t.loc (at' 0)).tasks = [])) = true := by decide +kernel

theorem test_query_free_session :
    gives (.querySession 3) State.reset (fun t => decide (lastResult t = some (0xA7, .ok,
      [.u8 3, .u8 0, .u8 0, .u8 0, .u8 0, .u8 0, .u16 0, .u16 0]))) = true := by decide

/-! ### Task requests (2.10, 2.11) -/

/-- 2.10, step 3. -/
theorem test_post_behind_700 :
    gives (.postTask 701 1 0 8 3 1 700) (working [pick 700 1]) (fun t => decide (lastResult t = some (0xB0, .ok,
      [.u16 701, .u8 1, .u8 1]) ∧ (t.findTask 700).bind Task.succ = some 701)) = true := by decide

/-- 2.10, step 6. -/
theorem test_post_chain_taken :
    gives (.postTask 704 1 0 5 5 0 700) chained (fun t => decide (lastResult t = some (0xB0, .chainTaken, [.u16 701]))) = true := by decide

/-- 2.11: a total of 7 leaves nothing to pick. -/
theorem test_amend_refused :
    gives (.amendTask 880 7) (working [{ pick 880 1 with requested := 10, picked := 7, offered := 3 }])
      (fun t => decide (lastResult t = some (0xB1, .badField, [.u16 7]))) = true := by decide

theorem test_withdraw_first_opens_the_next :
    gives (.withdrawTask 700 0) chained (fun t => decide (lastResult t = some (0xB2, .ok, [.u16 1]) ∧
      (t.findTask 701).map Task.state = some .opened ∧ (t.findTask 701).bind Task.pred = none)) = true := by decide

/-- 2.10, step 10. -/
theorem test_withdraw_cascade :
    gives (.withdrawTask 700 1) chained (fun t => decide (lastResult t = some (0xB2, .ok, [.u16 2]) ∧ t.tasks = [])) = true := by decide

theorem test_query_closed_frees :
    gives (.queryTask 907) (working [done 907]) (fun t => decide (t.tasks = [] ∧ lastResult t = some (0xB3, .ok, [.u16 907, .u8 1,
      .u8 0, .u8 1, .u8 3, .u8 1, .u8 0, .u16 6, .u16 6, .u16 0, .u16 0, .u8 0, .u8 0, .u8 0, .u8 0, .u8 0, .u8 0]))) = true := by decide

/-! ### Sweeps and visits -/

/-- The first planning issues token 1 (R43); IDLE content goes out at scale 0 (R146). -/
theorem test_sweep_sends_a_lamp :
    gives (.sweepStart 0) serving (fun t => decide ((t.bus 0).sent = [.lamp 1 Face.dark 0 false false true 1] ∧
      (t.bus 0).counter = 1 ∧ (t.governor 0).scale = 16)) = true := by decide

/-- Task content: BLUE, "  6", STEADY (R57). -/
theorem test_sweep_shows_the_task :
    gives (.sweepStart 0) (working [pick 700 1]) (fun t => decide ((t.bus 0).sent = [.lamp 1
      { colour := some .blue, chars := { left := .blank, mid := .blank, right := .digit 6 }, blink := .steady } 16 false false true 1]))
      = true := by decide

/-- A token map whose entry 3 is the task, issued at 0. -/
def shown (s : State) (id : Nat) (slot : Fin 8) : State :=
  s.modRot (at' 0) fun r => { r with token := 3, map := r.map.set 3 (some { meaning := .task { task := id, slot := slot }, issued := 0 }) }

theorem test_keys_confirm_closes :
    gives (.keysAnswer 0 (cleanBytes (keys false 1 3 255 2))) (shown (visiting (working [pick 700 1])) 700 1) (fun t =>
      decide ((t.findTask 700).map Task.state = some .closed ∧ notices t = [.taskClosed 700 1 (at' 0) .done 6 6] ∧
        (t.loc (at' 0)).ack = false ∧ (t.loc (at' 0)).rot.linger = some { task := 700, slot := 1, expiry := 660 })) = true := by decide +kernel

/-- 4.10: a CONFIRM on a task of a SUSPENDED session is held. -/
theorem test_keys_confirm_held :
    gives (.keysAnswer 0 (cleanBytes (keys false 1 3 255 5))) (shown (visiting (working [pick 512 2])) 512 2) (fun t =>
      decide ((t.session 2).pending = [{ task := 512, offered := 6, press := 40 }] ∧ notices t = [.session 2 512])) = true := by decide +kernel

theorem test_keys_expiry_retries :
    gives (.keysWindowExpiry 0) (visiting serving) (fun t => decide ((t.bus 0).exchange = .visit 0 true)) = true := by decide

/-- 6.5, sweep 9: the third failed visit makes the location LOST, and the probe LOOK(n - 1) follows. -/
theorem test_keys_expiry_loses :
    gives (.keysWindowExpiry 0)
      (((during serving (.visit 0 true)).setLoc (at' 0) { fitted .display with state := .suspect, miss := 2 }).modBus 0
        fun c => { c with counter := 9 })
      (fun t => decide (notices t = [.location (at' 0) .lost .lost (some .display) (some 7)] ∧ (t.bus 0).sent = [.look 0])) = true := by
  decide

/-- 6.5, sweep 16: the poll finds the module again, with its acknowledge bit kept. -/
theorem test_identify_returns :
    gives (.identifyReply 0 (cleanBytes (withCrc (bytes [0x92, 1, 2, 7, 0, 0, 0]))))
      ((during serving (.poll 0)).setLoc (at' 0) { fitted .display with state := .lost, miss := 3, ack := false })
      (fun t => decide (notices t = [.location (at' 0) .present .returned (some .display) (some 7)] ∧ (t.loc (at' 0)).miss = 0 ∧
        (t.loc (at' 0)).ack = false)) = true := by decide +kernel

theorem test_identify_expiry_ends_the_sweep :
    gives (.identifyWindowExpiry 0) ((during serving (.poll 0)).setBus 0 { (during serving (.poll 0)).bus 0 with sweepStart := 20 })
      (fun t => decide ((t.bus 0).scheduled = some 80 ∧ (t.bus 0).lastDuration = 40)) = true := by decide

theorem test_probe_here_takes :
    gives (.hereAnswer 0 (cleanBytes (withCrc (bytes [0xA2, 1]))))
      ((during serving (.probeLook 0)).setLoc (at' 0) { fitted .display with state := .lost, miss := 3, ack := false })
      (fun t => decide ((t.bus 0).sent = [.take 1] ∧ (t.loc (at' 0)).ack = true)) = true := by decide +kernel

theorem test_here_expiry_completes_the_walk :
    gives (.hereWindowExpiry 0) (during State.reset .walkLook .enrolling) (fun t => decide ((t.bus 0).state = .service ∧
      notices t = [.bus 0 .enrolDone (some 62)])) = true := by decide

/-! ### Walks -/

theorem test_enr_low_end_takes_1 :
    gives (.enrLowEnd 0) (State.reset.setBus 0 { Bus.initial .enrolling with enrLowEnd := some 0 }) (fun t =>
      decide ((t.bus 0).sent = [.take 1] ∧ t.enr 0 = true)) = true := by decide

/-- 5.5, steps 6 and 7: another known kind is MISMATCH and is recorded. -/
theorem test_taken_mismatch :
    gives (.takenAnswer 0 (cleanBytes (withCrc (bytes [0xA1, 1, 1, 0x15, 0xA0, 0, 0])))) (during serving (.walkTake 0 false) .enrolling) (fun t =>
      decide ((t.loc (at' 0)).state = .mismatch ∧ (t.loc (at' 0)).serial = some 40981#32 ∧ (t.bus 0).sent = [.take 2] ∧
        notices t = [.location (at' 0) .mismatch .mismatch (some .button) (some 40981#32)])) = true := by decide +kernel

/-- 5.5, steps 9 to 12 in small: the location not reached becomes ABSENT, then ENROL_DONE. -/
theorem test_taken_expiry_completes :
    gives (.takenWindowExpiry 0) (during serving (.walkTake 0 true) .enrolling) (fun t => decide ((t.loc (at' 0)).state = .absent ∧
      notices t = [.bus 0 .enrolDone (some 0), .location (at' 0) .absent .absent (some .display) (some 7)])) = true := by decide +kernel

theorem test_wait_end_releases :
    gives (.enrolWaitEnd 0) (State.reset.setBus 0 { Bus.initial .enrolling with waitEnd := some 0 }) (fun t =>
      decide ((t.bus 0).sent = [.release, .release] ∧ (t.bus 0).enrLowEnd = some 50 ∧ t.enr 0 = false)) = true := by decide

theorem test_resetting_end_closes_the_feed :
    gives (.resettingEnd 0) (State.reset.setBus 0 { Bus.initial .resetting with resettingEnd := some 0 }) (fun t =>
      decide (t.fsw 0 = true ∧ (t.bus 0).state = .enrolling)) = true := by decide

/-! ### The supply -/

theorem test_sample_starts :
    gives (.sampleStart 0) State.reset (fun t => decide ((t.feed 0).busy = true ∧ (t.feed 0).runStart = some 0)) = true := by decide

/-- A sample that started at 6024 is complete at 6032 (7.7). -/
def sampling (run : Nat) (s : State) : State :=
  { s with now := 6032 }.setFeed 0 { s.feed 0 with busy := true, runStart := some 6024, level := 0, zeroRun := run, escalated := true }

/-- 7.7, 6032: the fourth level-0 sample declares the brownout. -/
theorem test_fourth_zero_is_a_brownout :
    gives (.sampleComplete 0 0) (sampling 3 serving) (fun t => decide ((t.bus 0).state = .brownout ∧ t.fsw 0 = false ∧
      (t.loc (at' 0)).state = .lost ∧ notices t = [.supply 0 .brownout 0 (some 1)])) = true := by decide +kernel

/-- A nominal supply reads level 12; start-up is told by BAND alone (R135, R139). -/
theorem test_start_up_sample :
    gives (.sampleComplete 0 24000) ({ State.reset with now := 8 }.setFeed 0 { Feed.initial none with busy := true, runStart := some 0 })
      (fun t => decide ((t.bus 0).state = .enrolling ∧ (t.bus 0).waitEnd = some 208 ∧ (t.feed 0).next = some 2000 ∧
        notices t = [.supply 0 .band 12 none])) = true := by decide

/-- 7.6, 1620. -/
theorem test_phase_flips :
    gives (.phaseFlip 0) ({ serving with now := 1620 }.setGovernor 0 { Governor.initial with mode := .alternate, phaseExpiry := some 1620 })
      (fun t => decide ((t.bus 0).phase = true ∧ (t.governor 0).phaseExpiry = some 2120)) = true := by decide

/-- 7.5, the four cases. -/
theorem test_governor_figures :
    [budget 1500 10 588 240 220, budget 1500 5 588 240 220, budget 1500 5 588 520 480, budget 1500 2 588 520 480] =
      [{ mode := .steady, scale := 16, overload := false }, { mode := .steady, scale := 5, overload := false },
        { mode := .alternate, scale := 4, overload := false }, { mode := .alternate, scale := 4, overload := true }] := by decide

/-! ### The module's side -/

/-- R93: a module without an address, its input asserted, takes the address offered and answers TAKEN. -/
theorem test_module_takes_1 :
    ((LampModule.dark 2#8 7 .asserted 0).receive (cleanBytes (AisleFrame.take 1).bytes) 0).1.address = some 1 ∧
    ((LampModule.dark 2#8 7 .asserted 0).receive (cleanBytes (AisleFrame.take 1).bytes) 0).2 = some (withCrc (bytes [0xA1, 1, 2, 7, 0, 0, 0])) := by
  decide +kernel

/-- 6.5, sweep 6: on acknowledge bit 0 the module drops its CONFIRM and sends the MINUS behind it. -/
theorem test_module_drops_the_acknowledged :
    ({ LampModule.dark 2#8 7 .asserted 0 with
        address := some 1,
        events := [{ bit := false, key := .confirm, token := 3, since := 0, pressed := 300 },
          { bit := true, key := .minus, token := 3, since := 9, pressed := 340 }] }.receive
      (cleanBytes (AisleFrame.lamp 1 Face.dark 0 false false false 3).bytes) 360).2 = some (withCrc (bytes [0x91, 1, 3, 2, 3, 9, 5])) := by
  decide +kernel

/-- R111: a good frame but for one stop bit is no answer. -/
theorem test_wrong_stop_bit_is_no_answer :
    gives (.takenAnswer 0 ((cleanBytes (withCrc (bytes [0xA1, 1, 1, 0x15, 0xA0, 0, 0]))).set 3 { data := 0x15, stop := false }))
      (during serving (.walkTake 0 false) .enrolling) (fun t => decide ((t.bus 0).exchange = .walkTake 0 false ∧ notices t = [])) = true := by
  decide +kernel

/-- R111: kind 0x20 on the pair: a start bit, five zeros, a one, two zeros, a stop bit. -/
theorem test_release_kind_on_the_pair :
    byteBits 0x20#8 = [.start, .data false, .data false, .data false, .data false, .data false, .data true, .data false, .data false,
      .stop] := by decide

/-- R124, R125: a module silent for 3 s since its feed returned takes an address, and its first event takes the bit opposite to the
acknowledge bit of the LAMP frame that ends the silence. -/
theorem test_module_silence_gives_the_bit :
    (((((LampModule.dark 2#8 7 .asserted 0).fallSilent 3000).receive (cleanBytes (AisleFrame.take 1).bytes) 3010).1.receive
      (cleanBytes (AisleFrame.lamp 1 Face.dark 0 false false false 3).bytes) 3020).1.press .plus 3030).events.map HeldEvent.bit = [true] ∧
    ((LampModule.dark 2#8 7 .asserted 0).fallSilent 2999).silent = false := by decide +kernel

/-- R176, R179: " -5" in YELLOW, blinking, on a DISPLAY and on a BUTTON module. -/
theorem test_module_shows :
    let v : View := { face := { colour := some .yellow, chars := { left := .blank, mid := .dash, right := .digit 5 }, blink := .slow },
                      scale := 9, lit := true }
    { LampModule.dark 2#8 7 .asserted 0 with view := some v }.shows true =
      { lamp := some ({ red := true, green := true, blue := false }, 9), digits := some (.dark, .middle, .digit 5) } ∧
    { LampModule.dark 2#8 7 .asserted 0 with view := some v }.shows false = { lamp := none, digits := some (.dark, .dark, .dark) } ∧
    ({ LampModule.dark 1#8 7 .asserted 0 with view := some v }.shows true).digits = none := by decide

/-- 9.7 and R162: after the empty record LDO shifts 0x00. -/
theorem test_ldo_fills_with_zero :
    gives .lcsFall State.reset (fun t => decide ([0, 1, 2, 3, 99].map t.ldo = [some 1#8, some 0#8, some 0#8, some 0#8, some 0#8] ∧
      t.ldoBit 7 = some true ∧ t.ldoBit 6 = some false)) = true := by decide

end Sys2Proof.Tests
end

