-- ==== Sys2Proof/Tests/Witnesses.lean ====
section
/-! SUPPORT. For every statement with hypotheses, the concrete states and operands that meet them together, each clause at the
boundaries of its ranges. -/

namespace Sys2Proof.Tests

open Sys2Proof Sys2Proof.Machine Sys2Proof.Claims

/-! ### Step, resets, transactions -/

theorem witness_StepRunsFrontCommandOrCountsTime :
    ({ State.reset with pending := [.lcsFall, .partStatus] } : State).pending = .lcsFall :: [.partStatus] ∧
    (State.reset.pending = [] ∧ State.reset.held = false) ∧
    (({ State.reset with held := true } : State).pending = [] ∧ ({ State.reset with held := true } : State).held = true) := by decide

theorem witness_HeldResetClearsThePart :
    (Instr.powerOnReset = .powerOnReset ∨ Instr.powerOnReset = .rstnReset) ∧
    (Instr.rstnReset = .powerOnReset ∨ Instr.rstnReset = .rstnReset) := by decide

theorem witness_ReleaseLatchesStrapAndLinesTakeLevels :
    ({ State.reset with held := true, ms0 := false } : State).held = true ∧
    (({ State.reset with held := true } : State).held = true ∧ State.reset.ms0 = true ∧ State.reset.ms1 = true ∧
      State.reset.lcs = true ∧ State.reset.pending = []) ∧
    State.reset.held = false := by decide

/-- A state between transactions with the answers and the entries waiting. -/
def waiting (answers : Nat) (es : List Entry) (mask : Nat := 0) : State :=
  let s := reporting State.reset es
  { s with link := { s.link with replies := List.replicate answers (answerOf 0x31 .ok []) }, notices := { s.notices with mask := mask } }

/-- A state within a transaction, with the bytes received so far, the ready sample and the answers waiting. -/
def within (request : List Byte) (ready : Bool) (answers : Nat) (o : Outbound := .empty) : State :=
  { State.reset with
    lcs := false,
    link := { Link.initial with request := request, readySample := ready, outbound := some o,
                                replies := List.replicate answers (answerOf 0x31 .ok []) } }

theorem witness_FallFormsStatusAndItsByteClearsLost :
    ((waiting 4 []).held = false ∧ (waiting 4 []).lcs = true ∧ (waiting 4 []).link.replies.length ≤ 4 ∧
      (waiting 4 []).link.replies = answerOf 0x31 .ok [] :: List.replicate 3 (answerOf 0x31 .ok [])) ∧
    ((waiting 0 [entry 2 0, entry 1 1] 1).held = false ∧ (waiting 0 [entry 2 0, entry 1 1] 1).lcs = true ∧
      (waiting 0 [entry 2 0, entry 1 1] 1).link.replies.length ≤ 4 ∧ (waiting 0 [entry 2 0, entry 1 1] 1).link.replies = [] ∧
      (waiting 0 [entry 2 0, entry 1 1] 1).notices.entries.find?
        (fun x => decide ((waiting 0 [entry 2 0, entry 1 1] 1).notices.mask < x.priority)) = some (entry 2 0)) ∧
    ((waiting 0 [entry 2 0] 2).held = false ∧ (waiting 0 [entry 2 0] 2).lcs = true ∧ (waiting 0 [entry 2 0] 2).link.replies = [] ∧
      ∀ x ∈ (waiting 0 [entry 2 0] 2).notices.entries, x.priority ≤ (waiting 0 [entry 2 0] 2).notices.mask) ∧
    ((within [] true 0).link.outbound.isSome = true ∧ (within [] true 0).link.request = [] ∧
      ldiBytes false (linkWave [4#8]) = [4#8] ∧ (rises false ((linkWave [4#8]).take 15)).length = 7) ∧
    ((reporting (within [] true 0) (List.replicate 32 (entry 3 0))).link.outbound.isSome = true ∧
      (reporting (within [] true 0) (List.replicate 32 (entry 3 0))).link.request = [] ∧
      (reporting (within [] true 0) (List.replicate 32 (entry 3 0))).notices.classes.get (Notice.bus 0 .silent none).cls ≠ 0 ∧
      32 ≤ (reporting (within [] true 0) (List.replicate 32 (entry 3 0))).notices.entries.length) := by decide +kernel

/-- The hypotheses of the statement on fates, for the state and the levels that carry the bytes after the first. -/
def fateHyps (s : State) (further bytes : List Byte) : Prop :=
  s.held = false ∧ s.link.outbound = some .empty ∧ (s.link.readySample = true → s.link.replies.length < 4) ∧
    bytes = (if s.link.request = [] then [] else s.link.request ++ ldiBytes true (linkWave further))

theorem witness_RequestFateFollowsTable :
    fateHyps (within [] true 3) [5#8] [] ∧
    fateHyps (within [0#8] true 3) [5#8] [0#8, 5#8] ∧
    fateHyps (within [4#8] false 4) [1#8, 0#8] [4#8, 1#8, 0#8] ∧
    fateHyps (within [4#8] true 3) [] [4#8] ∧
    (fateHyps (within [4#8] true 3) (60#8 :: List.replicate 59 0#8) (4#8 :: 60#8 :: List.replicate 59 0#8) ∧
      (4#8 :: 60#8 :: List.replicate 59 (0#8 : Byte)).length = 61) ∧
    (fateHyps (within [4#8] true 3) (60#8 :: List.replicate 60 0#8) (4#8 :: 60#8 :: List.replicate 60 0#8) ∧
      (4#8 :: 60#8 :: List.replicate 60 (0#8 : Byte)).length = 62) ∧
    fateHyps (within [4#8] true 3) [61#8] [4#8, 61#8] ∧ 0 < (ldiBytes false (linkWave [5#8])).length ∧
    (rises true ((linkWave [5#8]).take 15)).length = 7 := by
  unfold fateHyps
  decide +kernel

/-- The hypotheses of the statement on taken requests. -/
def riseHyps (s : State) (i : Instr) (kind : Byte) (rest : List Byte) : Prop :=
  s.held = false ∧ i.wf = true ∧ s.link.outbound = some .empty ∧ s.link.readySample = true ∧ s.link.replies.length < 4 ∧
    requestBytes i = kind :: rest ∧ s.link.request = [kind] ∧ ldiBytes true (linkWave (rest ++ [0#8])) = rest ++ [0#8]

theorem witness_RiseRunsTheRequestItCarries :
    riseHyps (within [4#8] true 3) (.setMask 2) 4#8 [1#8, 2#8] ∧ riseHyps (within [1#8] true 0) .partStatus 1#8 [0#8] := by
  unfold riseHyps
  decide

theorem witness_OutboundRecordRemovedOnlyInFull :
    ((within [0#8] true 1 (.answer (answerOf 0x31 .ok []))).held = false ∧
      (within [0#8] true 1 (.answer (answerOf 0x31 .ok []))).link.outbound = some (.answer (answerOf 0x31 .ok [])) ∧
      (within [0#8] true 1 (.answer (answerOf 0x31 .ok []))).link.request = [0#8] ∧
      (List.replicate 2 (0#8 : Byte)).length < (Outbound.answer (answerOf 0x31 .ok [])).bytes.length ∧
      (Outbound.answer (answerOf 0x31 .ok [])).bytes.length ≤ (List.replicate 3 (0#8 : Byte)).length) ∧
    ((within [0#8] true 0 (.notice (entry 3 0))).link.outbound = some (.notice (entry 3 0)) ∧
      (List.replicate 6 (0#8 : Byte)).length < (Outbound.notice (entry 3 0)).bytes.length ∧
      (Outbound.notice (entry 3 0)).bytes.length ≤ (List.replicate 7 (0#8 : Byte)).length) ∧
    ((within [0#8] true 0).link.outbound = some .empty ∧ [0#8].length < Outbound.empty.bytes.length ∧
      Outbound.empty.bytes.length ≤ [0#8, 0#8].length ∧ ldiBytes true (linkWave (List.replicate 3 0#8)) = List.replicate 3 0#8) := by decide

/-- An entry that reports each kind of notice. -/
def noted (n : Notice) : Entry := { entry 3 0 with notice := n }

theorem witness_OutboundRecordsAreLaidOutInBytes :
    (noted (.taskClosed 700 1 (at' 4) .done 6 6)).notice = .taskClosed 700 1 (at' 4) .done 6 6 ∧
    (noted (.taskPartial 700 1 (at' 4) 2 4)).notice = .taskPartial 700 1 (at' 4) 2 4 ∧
    (noted (.press (at' 61) .plus .late (some 9) (some 7))).notice = .press (at' 61) .plus .late (some 9) (some 7) ∧
    (noted (.location (at' 0) .lost .lost none none)).notice = .location (at' 0) .lost .lost none none ∧
    (noted (.bus 3 .enrolDone (some 62))).notice = .bus 3 .enrolDone (some 62) ∧
    (noted (.supply 0 .brownout 0 (some 62))).notice = .supply 0 .brownout 0 (some 62) ∧
    (noted (.session 7 65535)).notice = .session 7 65535 := by decide

theorem witness_OutputLinesFollowTheState :
    ((within [] true 0).held = false ∧ (within [] true 0).lcs = false ∧ (within [] true 0).link.outbound = some .empty ∧
      (within [] true 0).ldo 2 = some 0#8 ∧ 1 < Outbound.empty.bytes.length ∧ Outbound.empty.bytes.length ≤ 2) ∧
    (({ State.reset with held := true } : State).held = true ∧ State.reset.lcs = true ∧
      ({ State.reset with lcs := false } : State).link.outbound = none) ∧
    (let s := State.reset.setBus 0 { Bus.initial .enrolling with sent := [.release] }
     s.held = false ∧ (s.bus 0).state = .enrolling ∧ (s.bus 0).sent = [.release] ∧ 1 < AisleFrame.release.bytes.length) ∧
    (serving.bus 0).state = .service ∧ ((during serving .none .off).bus 0).state = .off := by decide

/-! ### Requests of the link port, the notice queue and the scheduler -/

/-- The part takes a request with no answer waiting, and with three. -/
theorem witness_Takes : Takes State.reset ∧ Takes (waiting 3 []) := ⟨⟨rfl, by decide⟩, ⟨rfl, by decide⟩⟩

theorem takes_working (ts : List Task) : Takes (working ts) := ⟨rfl, Nat.succ_pos 3⟩

theorem witness_QueriesReportAndChangeNothing :
    Takes chained ∧ chained.inService (at' 61).bus = true ∧ chained.inService 3 = true := ⟨takes_working _, by decide⟩

theorem witness_CommandResetClearsAndRestarts :
    Takes { State.reset with strapMs1 := false } ∧ ({ State.reset with strapMs1 := false } : State).inService 1 = true ∧
    ({ State.reset with strapMs1 := false } : State).inService 2 = false := ⟨⟨rfl, by decide⟩, by decide⟩

theorem witness_SettingsAreClampedAndStored :
    Takes State.reset ∧ 5 < 6 ∧ NoticeClass.ofCode 0 = some .confirm ∧ NoticeClass.ofCode 5 = some .session ∧
    (Notice.session 0 1).cls = .session ∧ State.reset.notices.entries.length < 32 ∧ 3 < 4 := ⟨⟨rfl, by decide⟩, by decide⟩

theorem witness_DirectModeIsSetAndEnded :
    (Takes serving ∧ serving.inService (at' 0).bus = true ∧ (serving.bus (at' 0).bus).state = .service ∧
      ((serving.loc (at' 0)).state = .present ∨ (serving.loc (at' 0)).state = .suspect) ∧ 0 = lampCode none ∧
      7 = lampCode (some .white) ∧ 9 = (Glyph.digit 9).code ∧ 10 = Glyph.blank.code ∧ 11 = Glyph.dash.code ∧ 0 = Blink.steady.code ∧
      1 = Blink.slow.code) ∧
    ((serving.setLoc (at' 0) { fitted .display with state := .suspect, miss := 1 }).loc (at' 0)).state = .suspect ∧
    (Takes (serving.modRot (at' 0) fun r => { r with direct := some Face.dark }) ∧
      ((serving.modRot (at' 0) fun r => { r with direct := some Face.dark }).loc (at' 0)).rot.direct.isSome = true) :=
  ⟨⟨⟨rfl, by decide⟩, by decide⟩, by decide, ⟨rfl, by decide⟩, by decide⟩

/-! ### Requests on a bus -/

theorem witness_SetFeedStoresCapacityAndMode :
    Takes serving ∧ serving.inService 3 = true ∧ ({ State.reset with strapMs1 := false } : State).inService 2 = false :=
  ⟨⟨rfl, by decide⟩, by decide⟩

theorem witness_EnrolStartsTheReleasePhase :
    (Takes serving ∧ (serving.bus 0).state = .service) ∧
    (Takes (visiting serving) ∧ ((visiting serving).bus 0).state = .service ∧ ((visiting serving).bus 0).exchange.ofSweep = true) ∧
    (Takes (during serving .walkLook .enrolling) ∧ ((during serving .walkLook .enrolling).bus 0).state = .enrolling) ∧
    (Takes State.reset ∧ (State.reset.bus 0).state ≠ .service ∧ (State.reset.bus 0).state ≠ .enrolling) :=
  ⟨⟨⟨rfl, by decide⟩, by decide⟩, ⟨⟨rfl, by decide⟩, by decide⟩, ⟨⟨rfl, by decide⟩, by decide⟩, ⟨rfl, by decide⟩, by decide⟩

theorem witness_ResetBusActsByState :
    (Takes serving ∧ (serving.bus 0).state = .service) ∧
    (Takes (during serving .none .enrolling) ∧ ((during serving .none .enrolling).bus 0).state = .enrolling) ∧
    (Takes (during serving .none .resetting) ∧ ((during serving .none .resetting).bus 0).state = .resetting) ∧
    (Takes (during serving .none .brownout) ∧ ((during serving .none .brownout).bus 0).state = .brownout) ∧
    (Takes State.reset ∧ (State.reset.bus 0).state = .unpowered) ∧ ((during serving .none .off).bus 0).state = .off :=
  ⟨⟨⟨rfl, by decide⟩, by decide⟩, ⟨⟨rfl, by decide⟩, by decide⟩, ⟨⟨rfl, by decide⟩, by decide⟩, ⟨⟨rfl, by decide⟩, by decide⟩,
    ⟨⟨rfl, by decide⟩, by decide⟩, by decide⟩

/-! ### Session requests -/

/-- Session 1 with four ranges. -/
def fullOfRanges : State :=
  staffed.setSession 1 { staffed.session 1 with ranges := List.replicate 4 { bus := 0, first := 1, last := 20 } }

theorem witness_SessionRequestsAreRefused :
    (Takes staffed ∧ 7 < 8) ∧ ((staffed.session 0).state = .free ∧ 0 < 1 ∧ 7 < 8 ∧ 3 < 4) ∧
    ((staffed.session 1).state ≠ .free ∧ 1 + staffed.strapMs0.toNat + 2 * staffed.strapMs1.toNat ≤ 4 ∧ 62 < 63 ∧
      3 < 1 + staffed.strapMs0.toNat + 2 * staffed.strapMs1.toNat ∧ (staffed.session 1).ranges.length ≤ 1) ∧
    (Takes fullOfRanges ∧ (fullOfRanges.session 1).state ≠ .free ∧ 4 ≤ (fullOfRanges.session 1).ranges.length) ∧
    (staffed.session 2).state = .suspended ∧ (staffed.session 1).state = .active :=
  ⟨⟨⟨rfl, by decide⟩, by decide⟩, by decide, by decide, ⟨⟨rfl, by decide⟩, by decide⟩, by decide, by decide⟩

theorem witness_SessionRequestsAreTaken :
    ((Takes staffed ∧ (staffed.session 0).state = .free ∧ 3 ≤ 3) ∧
    ((staffed.session 1).state ≠ .free ∧ (staffed.session 1).priority = some 1) ∧
    (staffed.inService 3 = true ∧ (staffed.session 1).ranges.length < 4 ∧
      ∀ j, ¬ (j ≠ 1 ∧ (staffed.session j).state ≠ .free ∧ (staffed.session j).colour = (staffed.session 1).colour ∧
        ∃ r ∈ (staffed.session j).ranges, r.bus = 3 ∧ r.first ≤ 62 ∧ 1 ≤ r.last)) ∧
    (let s := staffed.setSession 2 { staffed.session 2 with colour := some .blue }
     Takes s ∧ (s.session 1).state ≠ .free ∧ s.inService 0 = true ∧
      ∀ j : Fin 8, (j ≠ 1 ∧ (s.session j).state ≠ .free ∧ (s.session j).colour = (s.session 1).colour ∧
        ∃ r ∈ (s.session j).ranges, r.bus = 0 ∧ r.first ≤ 62 ∧ 10 ≤ r.last) ↔ j = 2)) ∧
    (Takes chained ∧ (chained.session 1).state ≠ .free ∧ (chained.session 1).ranges[0]? = some { bus := 0, first := 1, last := 20 } ∧
      chained.tasks.filter (fun t => decide (t.slot = 1 ∧ t.state ≠ .closed) && Range.covers { bus := 0, first := 1, last := 20 } t.loc
        && !((chained.session 1).ranges.eraseIdx 0).any fun q => q.covers t.loc) ≠ []) ∧
    (Takes staffed ∧ (staffed.session 1).ranges[0]? = some { bus := 0, first := 1, last := 20 } ∧ staffed.tasks = []) ∧
    (chained.session 1).state = .active :=
  ⟨⟨⟨⟨rfl, by decide⟩, by decide⟩, by decide, by decide, ⟨rfl, by decide⟩, by decide, by decide, by decide⟩,
   ⟨takes_working _, by decide⟩, ⟨⟨rfl, by decide⟩, by decide⟩, by decide⟩

theorem witness_ResumeAppliesHeldConfirmations : Takes staffed ∧ (staffed.session 2).state = .suspended := ⟨⟨rfl, by decide⟩, by decide⟩

theorem witness_CloseSessionFreesItsTasks :
    Takes chained ∧ (chained.session 1).state ≠ .free ∧ (chained.tasks.map Task.id).Nodup := ⟨takes_working _, by decide⟩

/-! ### Task requests -/

/-- The store with every record in use. -/
def fullStore : State := { staffed with tasks := List.replicate 512 (done 9) }

/-- A1 with eight tasks. -/
def fullList : State := working ((List.range 8).map fun n => pick (n + 1) 1)

/-- The hypotheses of the statement on the checks of POST_TASK. -/
def refusedPost (s : State) (id slot bus node requested shortMode pred : Nat) (r : Reason) (fields : List Field) : Prop :=
  s.tasks.length ≤ 512 ∧ postRefusal s id slot bus node requested shortMode pred = some (r, fields)

theorem witness_PostTaskChecksInOrder :
    (Takes chained ∧ Takes fullStore ∧ Takes fullList) ∧
    refusedPost chained 0 1 0 1 1 0 0 .badField [] ∧ refusedPost chained 65536 1 0 1 1 0 0 .badField [] ∧
    refusedPost chained 701 8 4 0 0 2 9 .taskExists [.u8 1] ∧ refusedPost chained 1 8 4 0 0 2 9 .badField [] ∧
    refusedPost chained 1 0 4 0 0 2 9 .noSession [] ∧ refusedPost chained 1 1 4 1 0 2 9 .noLocation [] ∧
    refusedPost chained 1 1 3 63 0 2 9 .noLocation [] ∧ refusedPost chained 1 1 0 21 0 2 9 .notPermitted [] ∧
    refusedPost chained 1 1 0 20 0 0 9 .badField [] ∧ refusedPost chained 1 1 0 20 1000 0 9 .badField [] ∧
    refusedPost chained 1 1 0 20 999 2 9 .badField [] ∧ refusedPost chained 1 1 0 20 999 1 9 .noTask [] ∧
    refusedPost chained 1 2 0 10 999 1 701 .taskState [] ∧ refusedPost chained 1 1 0 20 999 1 700 .chainTaken [.u16 701] ∧
    refusedPost fullStore 1 1 0 1 1 0 0 .storeFull [.u16 512] ∧ refusedPost fullList 9 1 0 1 1 0 8 .listFull [] := by
  refine ⟨⟨takes_working _, ⟨rfl, by decide⟩, takes_working _⟩, ?_⟩
  unfold refusedPost
  and_intros <;> decide +kernel

theorem witness_PostTaskPlacesTheTask :
    (Takes chained ∧ chained.tasks.length ≤ 512 ∧
      postRefusal chained 65535 (1 : Fin 8).val (at' 0).bus.val (at' 0).node 999 ShortMode.keep.code 701 = none) ∧
    (Takes chained ∧ postRefusal chained 1 (1 : Fin 8).val (at' 19).bus.val (at' 19).node 1 ShortMode.close.code 0 = none) :=
  ⟨⟨takes_working _, by decide⟩, takes_working _, by decide⟩

theorem witness_AmendTaskResetsOffered :
    let s := working [pick 700 1, done 907]
    Takes s ∧ s.findTask 5 = none ∧ (s.findTask 907 = some (done 907) ∧ (done 907).state = .closed ∧ (done 907).outcome = some .done) ∧
    (s.findTask 700 = some (pick 700 1) ∧ (pick 700 1).state ≠ .closed ∧ 0 ≤ (pick 700 1).picked ∧ 999 < 1000 ∧
      (pick 700 1).picked < 1 ∧ 999 ≤ 999) := ⟨takes_working _, by decide⟩

/-- A chain of three tasks of session 1 at A1, a task of session 2 there and a closed one. -/
def chain3 : State :=
  working [{ pick 700 1 with succ := some 701 }, { pick 701 1 with state := .waiting, pred := some 700, succ := some 702 },
    { pick 702 1 with state := .waiting, pred := some 701 }, pick 650 2, done 907]

theorem chain3_tasks : chain3.tasks =
    [{ pick 700 1 with succ := some 701 }, { pick 701 1 with state := .waiting, pred := some 700, succ := some 702 },
      { pick 702 1 with state := .waiting, pred := some 701 }, pick 650 2, done 907] := rfl

theorem chain3_lists (l : Loc) : (chain3.loc l).tasks = if l = at' 0 then [700, 701, 702, 650] else [] := by
  obtain ⟨b, i⟩ := l
  revert b i
  decide +kernel

theorem chain3_store : chain3.StoreInv where
  room := by decide
  ids := by decide
  records := by
    intro t ht
    simp only [chain3_tasks, List.mem_cons, List.not_mem_nil, or_false] at ht
    rcases ht with rfl | rfl | rfl | rfl | rfl <;> constructor <;> decide
  succs := by
    intro t ht q hq
    simp only [chain3_tasks, List.mem_cons, List.not_mem_nil, or_false] at ht
    rcases ht with rfl | rfl | rfl | rfl | rfl <;> cases hq
    · exact ⟨{ pick 701 1 with state := .waiting, pred := some 700, succ := some 702 }, by decide, rfl, rfl, rfl, rfl, rfl, rfl⟩
    · exact ⟨{ pick 702 1 with state := .waiting, pred := some 701 }, by decide, rfl, rfl, rfl, rfl, rfl, rfl⟩
  preds := by
    intro t ht q hq
    simp only [chain3_tasks, List.mem_cons, List.not_mem_nil, or_false] at ht
    rcases ht with rfl | rfl | rfl | rfl | rfl <;> cases hq
    · exact ⟨{ pick 700 1 with succ := some 701 }, by decide, rfl, rfl, rfl, rfl, rfl, rfl⟩
    · exact ⟨{ pick 701 1 with state := .waiting, pred := some 700, succ := some 702 }, by decide, rfl, rfl, rfl, rfl, rfl, rfl⟩
  acyclic := by
    refine ⟨id, fun t ht q hq => ?_⟩
    simp only [chain3_tasks, List.mem_cons, List.not_mem_nil, or_false] at ht
    rcases ht with rfl | rfl | rfl | rfl | rfl <;> cases hq <;> decide
  lists := by
    intro l
    rw [chain3_lists]
    split <;> decide
  listed := by
    intro l id
    rw [chain3_lists, chain3_tasks]
    constructor
    · intro h
      split at h
      · subst l
        simp only [List.mem_cons, List.not_mem_nil, or_false] at h
        rcases h with rfl | rfl | rfl | rfl
        · exact ⟨{ pick 700 1 with succ := some 701 }, by decide⟩
        · exact ⟨{ pick 701 1 with state := .waiting, pred := some 700, succ := some 702 }, by decide⟩
        · exact ⟨{ pick 702 1 with state := .waiting, pred := some 701 }, by decide⟩
        · exact ⟨pick 650 2, by decide⟩
      · cases h
    · rintro ⟨t, ht, rfl, hl, rfl⟩
      simp only [List.mem_cons, List.not_mem_nil, or_false] at ht
      rcases ht with rfl | rfl | rfl | rfl | rfl <;> first | decide | cases hl
  covered := by
    intro t ht hl
    simp only [chain3_tasks, List.mem_cons, List.not_mem_nil, or_false] at ht
    rcases ht with rfl | rfl | rfl | rfl | rfl <;> decide
  closures := by
    refine ⟨by decide, fun t ht n hn => ?_⟩
    simp only [chain3_tasks, List.mem_cons, List.not_mem_nil, or_false] at ht
    rcases ht with rfl | rfl | rfl | rfl | rfl <;> cases hn
    decide
  reports := by
    intro e he
    cases he
  held := by
    intro i e he
    have : ∀ i, (chain3.session i).pending = [] := by decide
    rw [this i] at he
    cases he

/-- The four rows of R35: a task with both links, with a predecessor alone, with a successor alone, and with none. -/
theorem witness_WithdrawSplicesTheChain :
    Takes chain3 ∧ chain3.StoreInv ∧
    (chain3.findTask 701 = some { pick 701 1 with state := .waiting, pred := some 700, succ := some 702 }) ∧
    (chain3.findTask 702 = some { pick 702 1 with state := .waiting, pred := some 701 }) ∧
    (chain3.findTask 700 = some { pick 700 1 with succ := some 701 }) ∧ (chain3.findTask 650 = some (pick 650 2)) :=
  ⟨takes_working _, chain3_store, by decide⟩

theorem witness_CascadeFreesTheFollowers :
    Takes chain3 ∧ chain3.StoreInv ∧ chain3.findTask 700 = some { pick 700 1 with succ := some 701 } ∧ (pick 700 1).state ≠ .closed ∧
    chain3.findTask 701 = some { pick 701 1 with state := .waiting, pred := some 700, succ := some 702 } ∧
    Reaches chain3 700 702 ∧ ¬ Reaches chain3 702 700 := by
  refine ⟨takes_working _, chain3_store, by decide, by decide, by decide, ?_, ?_⟩
  · exact .next 700 701 702 _ rfl rfl (.next 701 702 702 _ rfl rfl (.here 702))
  · intro h
    cases h with
    | next id q r t ht hq _ =>
      cases ht
      cases hq

theorem witness_QueryTaskReportsAndFreesClosed :
    Takes chain3 ∧ chain3.findTask 5 = none ∧ chain3.findTask 907 = some (done 907) ∧ chain3.findTask 650 = some (pick 650 2) :=
  ⟨takes_working _, by decide⟩

theorem witness_BusLocationAndWithdrawalRefusals :
    (Takes chain3 ∧ 3 < 4 ∧ 2 < 3) ∧ (nowhere chain3 4 1 ∧ nowhere chain3 3 0 ∧ nowhere chain3 3 63) ∧
    (chain3.inService (at' 0).bus = true ∧ 7 < 8 ∧ 11 < 12 ∧ 1 < 2) ∧
    (Takes State.reset ∧ State.reset.inService 0 = true ∧ (State.reset.bus 0).state ≠ .service) ∧
    ((serving.bus (at' 1).bus).state = .service ∧ (serving.loc (at' 1)).state ≠ .present ∧ (serving.loc (at' 1)).state ≠ .suspect ∧
      (serving.loc (at' 1)).rot.direct = none) ∧
    (chain3.findTask 0 = none ∧ chain3.findTask 907 = some (done 907) ∧ (done 907).outcome = some .done ∧
      chain3.findTask 650 = some (pick 650 2) ∧ 1 < 2) := by
  refine ⟨⟨takes_working _, by decide⟩, ?_, by decide, ⟨⟨rfl, by decide⟩, by decide⟩, by decide, by decide⟩
  unfold nowhere
  decide

theorem witness_UnknownKindsAndLengthsAreAnswered :
    Takes State.reset ∧ recognisedKind 8 = false ∧ recognisedKind 0x80 = false ∧ (requestLength 4 = some 1 ∧ 2 ≠ 1) ∧
    ((within [4#8] true 3).held = false ∧ (within [4#8] true 3).link.outbound = some .empty ∧
      (within [4#8] true 3).link.readySample = true ∧ (within [4#8] true 3).link.replies.length < 4 ∧
      (within [4#8] true 3).link.request = [4#8] ∧ requestLength (4#8 : Byte).toNat = some 1 ∧
      ((2#8 : Byte).toNat ≠ 1 ∧ (2#8 : Byte).toNat ≤ [0#8, (0#8 : Byte)].length) ∧ ((61#8 : Byte).toNat ≠ 1 ∧ 60 < (61#8 : Byte).toNat)) ∧
    ((within [0x7F#8] true 3).link.request = [0x7F#8] ∧ (0x7F#8 : Byte) ≠ 0 ∧ recognisedKind (0x7F#8 : Byte).toNat = false ∧
      (0#8 : Byte).toNat ≤ ([] : List Byte).length) ∧
    (ldiBytes true (linkWave [2#8, 0#8, 0#8]) = [2#8, 0#8, 0#8] ∧ ldiBytes true (linkWave [61#8]) = [61#8] ∧
      ldiBytes true (linkWave [0#8]) = [0#8]) :=
  ⟨⟨rfl, by decide⟩, by decide⟩

theorem witness_EveryRequestLeavesOneAnswerOrNone :
    (isRequest .resetPart = true ∧ isRequest (.unknownRequest 8) = true ∧ Takes (waiting 3 [])) ∧
    ({ State.reset with held := true } : State).held = true ∧ ((waiting 4 []).held = false ∧ 4 ≤ (waiting 4 []).link.replies.length) :=
  ⟨⟨by decide, by decide, rfl, by decide⟩, by decide, by decide⟩

/-! ### Sweeps -/

/-- Bus A with A3 LOST beside A1, its sweep counter as given. -/
def losing (counter : Nat) : State :=
  (serving.setBus 0 { serving.bus 0 with counter := counter }).setLoc (at' 2) { fitted .button with state := .lost, miss := 3 }

theorem witness_SweepPartsFollowInOrder :
    firstFrom serving 0 0 (fun x => x.state = .present ∨ x.state = .suspect) 0 ∧
    noneFrom serving 0 1 (fun x => x.state = .present ∨ x.state = .suspect) ∧
    ((losing 0).bus 0).counter % 8 = 0 ∧ firstFrom (losing 0) 0 2 (fun x => x.state = .lost) 2 ∧
    noneFrom (losing 0) 0 3 (fun x => x.state = .lost) ∧ ((losing 1).bus 0).counter % 8 ≠ 0 ∧
    ∀ j : Fin 62, ((losing 1).loc { bus := 0, idx := j }).state = .lost ↔ j = 2 := by
  unfold firstFrom noneFrom
  and_intros <;> decide +kernel

/-- Bus A with A3 LOST, or A3 and A4, and no module to visit; its sweep counter as given. -/
def lostOnly (counter lost : Nat) : State :=
  let s := (losing counter).setLoc (at' 0) Location.initial
  if lost = 1 then s else s.setLoc (at' 3) { fitted .button with state := .lost, miss := 3 }

/-- A sweep of bus A is due, with nothing to visit. -/
def startable (s : State) : Prop :=
  (s.bus 0).counter ≤ 255 ∧ (s.bus 0).state = .service ∧ (s.bus 0).exchange = .none ∧ (s.bus 0).scheduled = some 60 ∧ 60 ≤ s.now ∧
    noneFrom s 0 0 (fun x => x.state = .present ∨ x.state = .suspect)

theorem witness_SweepStartsWhenDue :
    ((serving.bus 0).counter ≤ 255 ∧ (serving.bus 0).state = .service ∧ (serving.bus 0).exchange = .none ∧
      (serving.bus 0).scheduled = some 60 ∧ 60 ≤ serving.now ∧
      firstFrom serving 0 0 (fun x => x.state = .present ∨ x.state = .suspect) 0) ∧
    (let s := serving.setLoc (at' 0) Location.initial
     (s.bus 0).counter ≤ 255 ∧ (s.bus 0).state = .service ∧ (s.bus 0).exchange = .none ∧ (s.bus 0).scheduled = some 60 ∧ 60 ≤ s.now ∧
      noneFrom s 0 0 (fun x => x.state = .present ∨ x.state = .suspect ∨ x.state = .lost)) ∧
    (let s : State := { serving with now := 59 }
     (s.bus 0).counter ≤ 255 ∧ (s.bus 0).scheduled = some 60 ∧ s.now < 60) ∧
    (startable (lostOnly 7 1) ∧ 8 % 8 = 0 ∧ firstFrom (lostOnly 7 1) 0 0 (fun x => x.state = .lost) 2) ∧
    (startable (lostOnly 255 1) ∧ firstFrom (lostOnly 255 1) 0 0 (fun x => x.state = .lost) 2) ∧
    (startable (lostOnly 1 1) ∧ 2 % 8 ≠ 0 ∧ ∀ j, ((lostOnly 1 1).loc { bus := 0, idx := j }).state = .lost ↔ j = 2) ∧
    (startable (lostOnly 1 2) ∧ 2 ≤ presenceCount (lostOnly 1 2) 0 .lost ∧ ((lostOnly 1 2).bus 0).ambiguous = false) ∧
    ((State.reset.bus 0).state ≠ .service ∧ (visiting serving).now = 60 ∧ ((visiting serving).bus 0).exchange ≠ .none) := by
  unfold startable firstFrom noneFrom
  and_intros <;> decide +kernel

theorem witness_KeysAnswerEndsTheVisit :
    ((visiting serving).bus 0).exchange = .visit 0 false ∧ ((during serving (.visit 61 true)).bus 0).exchange = .visit 61 true ∧
    (0#8 : Byte).getLsbD 0 = false ∧ (1#8 : Byte).getLsbD 0 = true ∧
    ∀ f k t c a : Byte, [] ≠ cleanBytes (withCrc [0x91#8, BitVec.ofNat 8 1, f, k, t, c, a]) :=
  ⟨rfl, rfl, by decide, by decide, fun _ _ _ _ _ h => by cases h⟩

theorem witness_UnansweredVisitIsRetriedThenFails :
    ((visiting serving).bus 0).exchange = .visit 0 false ∧
    (((during serving (.visit 0 true)).bus 0).exchange = .visit 0 true ∧ ((during serving (.visit 0 true)).loc (at' 0)).miss < 2) ∧
    (let s := (during serving (.visit 0 true)).setLoc (at' 0) { fitted .display with state := .suspect, miss := 1 }
     (s.bus 0).exchange = .visit 0 true ∧ (s.loc (at' 0)).miss < 2) ∧
    (let s := (during serving (.visit 0 true)).setLoc (at' 0) { fitted .display with state := .suspect, miss := 2 }
     (s.bus 0).exchange = .visit 0 true ∧ (s.loc (at' 0)).miss = 2) ∧
    ∀ j k, (serving.bus 0).exchange ≠ .visit j k := by decide

theorem witness_PollAndProbeFindReplacements :
    ((during (losing 8) (.poll 2)).bus 0).exchange = .poll 2 ∧ ((during (losing 1) (.probeLook 2)).bus 0).exchange = .probeLook 2 ∧
    ((during (losing 1) (.probeTake 2 false)).bus 0).exchange = .probeTake 2 false ∧
    ((during (losing 1) (.probeTake 2 true)).bus 0).exchange = .probeTake 2 true ∧
    (∀ c s0 s1 s2 s3 : Byte, [] ≠ cleanBytes (withCrc [0x92#8, BitVec.ofNat 8 3, c, s0, s1, s2, s3])) ∧
    [] ≠ cleanBytes (withCrc [0xA2#8, BitVec.ofNat 8 3]) ∧
    (∀ c s0 s1 s2 s3 : Byte, [] ≠ cleanBytes (withCrc [0xA1#8, BitVec.ofNat 8 3, c, s0, s1, s2, s3])) :=
  ⟨rfl, rfl, rfl, rfl, (fun _ _ _ _ _ h => by cases h), by decide, fun _ _ _ _ _ h => by cases h⟩

/-- A sweep that ends before, and one that ends at, the scheduled start of the next. -/
theorem witness_SweepEndExaminesTheFlags :
    let s := during serving (.poll 2)
    ({ s with now := 59 } : State).now < (s.bus 0).sweepStart + (s.bus 0).period ∧
    (s.bus 0).sweepStart + (s.bus 0).period ≤ s.now ∧ (s.bus 0).state = .service := by decide

theorem witness_WalkHandsOutAddressesAndCompletes :
    ((State.reset.setBus 0 { Bus.initial .enrolling with enrLowEnd := some 50 }).bus 0).enrLowEnd = some 50 ∧
    ((during serving (.walkTake 0 false) .enrolling).bus 0).exchange = .walkTake 0 false ∧
    ((during serving (.walkTake 61 true) .enrolling).bus 0).exchange = .walkTake 61 true ∧
    ((during serving .walkLook .enrolling).bus 0).exchange = .walkLook ∧
    (∀ c s0 s1 s2 s3 : Byte, [] ≠ cleanBytes (withCrc [0xA1#8, BitVec.ofNat 8 1, c, s0, s1, s2, s3])) ∧
    [] ≠ cleanBytes (withCrc [0xA2#8, 63#8]) :=
  ⟨rfl, rfl, rfl, rfl, (fun _ _ _ _ _ h => by cases h), by decide⟩

theorem witness_TimersEndInTheirEvents :
    ((State.reset.setBus 0 { Bus.initial .enrolling with waitEnd := some 200 }).bus 0).waitEnd = some 200 ∧
    ((State.reset.setBus 0 { Bus.initial .resetting with resettingEnd := some 500 }).bus 0).resettingEnd = some 500 ∧
    ((State.reset.feed 0).busy = false ∧ (State.reset.feed 0).next = some 0 ∧ 0 ≤ State.reset.now) ∧
    ((serving.feed 0).busy = false ∧ (serving.feed 0).next = some 2000 ∧ serving.now < 2000) ∧
    ((State.reset.setGovernor 0 { Governor.initial with phaseExpiry := some 500 }).governor 0).phaseExpiry = some 500 := by decide

/-! ### The supply -/

theorem witness_SampleIsProcessedInOrder :
    ((({ sampling 0 serving with now := 6031 } : State).feed 0).runStart = some 6024 ∧
      ({ sampling 0 serving with now := 6031 } : State).now < 6024 + 8) ∧
    (((sampling 2 serving).feed 0).runStart = some 6024 ∧ 6024 + 8 ≤ (sampling 2 serving).now ∧
      ((sampling 2 serving).feed 0).zeroRun = 2 ∧ ((sampling 2 serving).bus 0).state = .service ∧ levelOf 15749 = 0) ∧
    (((sampling 3 serving).feed 0).zeroRun = 3 ∧ 6024 + 8 ≤ (sampling 3 serving).now ∧ ((sampling 3 serving).bus 0).state = .service) ∧
    (((sampling 0 State.reset).bus 0).state = .unpowered ∧ 6024 + 8 ≤ (sampling 0 State.reset).now ∧ levelOf 16499 = 1 ∧
      levelOf 16500 = 2) ∧
    ((during (sampling 0 serving) .none .brownout).bus 0).state = .brownout := by decide

theorem witness_LevelsAndBandsFollowTheSupply :
    ((sampling 0 serving).feed 0).runStart = some 6024 ∧ 6024 + 8 ≤ (sampling 0 serving).now ∧ 15749 < 15750 ∧
    levelOf 15750 = 1 ∧ levelOf 26249 = 14 ∧ levelOf 26250 = 15 := by decide

/-- Bus A at level 2 with a capacity of 500 mA and a white direct pattern on a display at A1. -/
def overloaded : State :=
  ((serving.setGovernor 0 { Governor.initial with capacity := 500 }).setFeed 0 { serving.feed 0 with level := 2 }).setLoc (at' 0)
    { fitted .display with rot := { Rotation.initial with direct := some { Face.dark with colour := some .white } } }

/-- Nothing lit; a white lamp within the headroom; and the same lamp on a feed whose headroom it exceeds. -/
theorem witness_GovernorFixesModeAndScale :
    (serving.sweepBudget 0).mode = .steady ∧
    overloaded.sweepBudget 0 = { mode := .steady, scale := 16, overload := false } ∧
    budget 500 2 120 60 60 = { mode := .alternate, scale := 4, overload := true } ∧
    budget 500 2 100 60 60 = { mode := .alternate, scale := 6, overload := false } ∧
    ({ serving with notices := { serving.notices with classes := { ClassTable.initial with supply := 0 } } } : State).notices.classes.supply
      = 0 := by
  and_intros <;> decide +kernel

/-! ### Presses -/

/-- The key event with the key, token, since-change count and age. -/
def event (key token since age : Nat) : KeyEvent := { bit := false, key := key, token := token, since := since, age := age }

/-- The state with these meanings in the token map of A1: entry 3 issued at 40, entry 2 issued at 30. -/
def mapped (s : State) (three two : Option Meaning) : State :=
  s.modRot (at' 0) fun r => { r with
    map := (r.map.set 3 (three.map fun m => { meaning := m, issued := 40 })).set 2 (two.map fun m => { meaning := m, issued := 30 }) }

theorem witness_PressWithoutTargetIsDeclinedOrAbsorbed :
    ((event 0 3 0 0).key = 0 ∧ 3 < (event 4 3 0 0).key ∧ (event 1 3 0 0).key = Key.confirm.code ∧ (event 3 3 0 0).key = Key.plus.code) ∧
    ({ serving with ms0 := false } : State).ms0 = false ∧ ({ serving with ms1 := false } : State).ms1 = false ∧
    (serving.ms0 = true ∧ serving.ms1 = true ∧ (serving.loc (at' 0)).rot.direct = none) ∧
    (overloaded.ms0 = true ∧ overloaded.ms1 = true ∧ (overloaded.loc (at' 0)).rot.direct.isSome = true) ∧
    (7 < (event 1 8 0 0).token ∧ (event 1 3 0 255).age = 255 ∧ (event 1 7 0 254).token = (7 : Fin 8).val ∧ (event 1 7 0 254).age ≠ 255) ∧
    (serving.loc (at' 0)).rot.map[(7 : Fin 8).val] = none ∧
    (let s := mapped staffed (some .idle) none
     (s.loc (at' 0)).rot.map[(3 : Fin 8).val] = some { meaning := .idle, issued := 40 } ∧
      s.now - 4 * (event 1 3 0 6).age < 40 ∧ 40 ≤ s.now - 4 * (event 1 3 0 5).age ∧
      (∀ j, (s.session j).state = .active ∧ (s.session j).covers (at' 0) = true ↔ j = 1) ∧
      ∀ i, ¬ ∀ j, (s.session j).state = .active ∧ (s.session j).covers (at' 40) = true ↔ j = i) ∧
    ((mapped staffed (some (.linger { task := 5, slot := 1 })) none).loc (at' 0)).rot.map[(3 : Fin 8).val] =
      some { meaning := .linger { task := 5, slot := 1 }, issued := 40 } ∧
    ((mapped staffed (some .blanked) none).loc (at' 0)).rot.map[(3 : Fin 8).val] = some { meaning := .blanked, issued := 40 } ∧
    ((mapped staffed (some .direct) none).loc (at' 0)).rot.map[(3 : Fin 8).val] = some { meaning := .direct, issued := 40 } := by
  and_intros <;> decide +kernel

/-- A1 with an OPEN task of session 1 and one of session 2, shown under tokens 2 and 3. -/
def shared : State :=
  mapped (working [pick 41 1, pick 45 2]) (some (.task { task := 45, slot := 2 })) (some (.task { task := 41, slot := 1 }))

/-- Within the guard the press goes to the task of entry 2; at 240 ms, or where entry 2 is no task, to that of entry 3. -/
theorem witness_PressOnTaskFollowsGuardAndTargetChecks :
    ((shared.tasks.map Task.id).Nodup ∧ (event 1 3 59 0).key = Key.confirm.code ∧ shared.ms0 = true ∧ shared.ms1 = true ∧
      (shared.loc (at' 0)).rot.direct = none ∧ (event 1 3 59 0).token = (3 : Fin 8).val ∧ (event 1 3 59 0).age ≠ 255 ∧
      (shared.loc (at' 0)).rot.map[(3 : Fin 8).val] = some { meaning := .task { task := 45, slot := 2 }, issued := 40 } ∧
      40 ≤ shared.now - 4 * (event 1 3 59 5).age) ∧
    (4 * (event 1 3 59 0).since < shared.timing.guard ∧
      (shared.loc (at' 0)).rot.map[((3 : Fin 8) - 1).val] = some { meaning := .task { task := 41, slot := 1 }, issued := 30 } ∧ 30 < 40 ∧
      shared.findTask 41 = some (pick 41 1) ∧ (pick 41 1).state = .opened ∧ (pick 41 1).loc = at' 0 ∧ (pick 41 1).slot = 1) ∧
    shared.timing.guard ≤ 4 * (event 1 3 60 0).since ∧
    (let s := mapped (working [pick 45 2]) (some (.task { task := 45, slot := 2 })) (some .idle)
     (s.loc (at' 0)).rot.map[(3 : Fin 8).val] = some { meaning := .task { task := 45, slot := 2 }, issued := 40 } ∧
      (s.loc (at' 0)).rot.map[((3 : Fin 8) - 1).val] = some { meaning := .idle, issued := 30 }) := by
  and_intros <;> decide +kernel

theorem witness_ConfirmRuleHasFourCases :
    ((pick 700 1).picked < (pick 700 1).requested ∧ (pick 700 1).succ ≠ some (pick 700 1).id) ∧
    (6 = (pick 700 1).requested - (pick 700 1).picked ∧ 6 ≤ (pick 700 1).requested - (pick 700 1).picked) ∧
    (0 < 5 ∧ 5 < (pick 700 1).requested - (pick 700 1).picked ∧ (pick 700 1).shortMode = .close) ∧
    (0 < 1 ∧ ({ pick 700 1 with shortMode := .keep } : Task).shortMode = .keep) ∧ 0 ≤ (pick 700 1).requested - (pick 700 1).picked := by
  decide

/-! ### The display scheduler -/

/-- Session 2 ACTIVE beside session 1, each with a task at A1; the location's rotation state as given. -/
def rotating (f : Rotation → Rotation) : State :=
  ((working [pick 41 1, pick 45 2]).setSession 2 { staffed.session 2 with state := .active }).modRot (at' 0) f

/-- The location shows task 41 of session 1 with the dwell expiry. -/
def showing41 (dwell : Option Instant) (r : Rotation) : Rotation :=
  { r with meaning := some (.task { task := 41, slot := 1 }), dwell := dwell, position := some 1 }

theorem witness_PlanningTakesTheFirstCase :
    (({ serving with ms0 := false } : State).ms0 = false ∧ ({ serving with ms1 := false } : State).ms0 = true ∧
      ({ serving with ms1 := false } : State).ms1 = false ∧ (overloaded.loc (at' 0)).rot.direct = some { Face.dark with colour := some .white }) ∧
    (let s := rotating fun r => { r with linger := some { task := 5, slot := 1, expiry := 61 } }
     s.ms0 = true ∧ s.ms1 = true ∧ (s.loc (at' 0)).rot.direct = none ∧
      (s.loc (at' 0)).rot.linger.filter (fun g => decide (s.now < g.expiry)) = some { task := 5, slot := 1, expiry := 61 }) ∧
    (let s := rotating fun r => { r with hold := some { task := 45, expiry := 61 }, linger := some { task := 5, slot := 1, expiry := 60 } }
     (s.loc (at' 0)).rot.linger.filter (fun g => decide (s.now < g.expiry)) = none ∧
      (s.loc (at' 0)).rot.hold.filter (fun h => decide (s.now < h.expiry)) = some { task := 45, expiry := 61 } ∧
      pick 45 2 ∈ s.eligible (at' 0)) ∧
    (let s := rotating fun r => { r with hold := some { task := 9, expiry := 61 } }
     (s.loc (at' 0)).rot.hold = some { task := 9, expiry := 61 } ∧ ∀ t ∈ s.eligible (at' 0), t.id ≠ 9) ∧
    serving.eligible (at' 0) = [] ∧ (working [pick 41 1, pick 45 2]).eligible (at' 0) = [pick 41 1] := by
  and_intros <;> decide +kernel

/-- Case 7 of R46: the dwell runs, is absent, is over at the planning, or no task is current; the cycle goes on, or starts again. -/
theorem witness_PlanningTakesTheFirstCase_rotation :
    (let s := rotating (showing41 (some 61))
     2 ≤ (s.eligible (at' 0)).length ∧ pick 41 1 ∈ s.eligible (at' 0) ∧
      (s.loc (at' 0)).rot.meaning = some (.task { task := 41, slot := 1 }) ∧ (s.loc (at' 0)).rot.dwell = some 61 ∧ s.now < 61) ∧
    (let s := rotating (showing41 none)
     2 ≤ (s.eligible (at' 0)).length ∧ (s.loc (at' 0)).rot.dwell = none) ∧
    (let s := rotating (showing41 (some 60))
     2 ≤ (s.eligible (at' 0)).length ∧ (s.loc (at' 0)).rot.dwell = some 60 ∧ 60 ≤ s.now ∧ (s.loc (at' 0)).rot.position = some 1 ∧
      ∃ u ∈ s.eligible (at' 0), 1 < u.slot) ∧
    (let s := rotating fun r => { r with position := some 2 }
     2 ≤ (s.eligible (at' 0)).length ∧ (s.loc (at' 0)).rot.meaning = none ∧ ∀ u ∈ s.eligible (at' 0), ¬ 2 < u.slot) := by
  and_intros <;> decide +kernel

theorem witness_TokenIsIssuedWhenTheMeaningChanges :
    (serving.loc (at' 0)).rot.meaning ≠ some (serving.choose (at' 0)).meaning ∧
    (let s := serving.modRot (at' 0) fun r => { r with meaning := some .idle }
     (s.loc (at' 0)).rot.fresh = true ∧ (s.choose (at' 0)).meaning ≠ .blanked) ∧
    ((rotating (showing41 (some 60))).choose (at' 0)).advanced = true ∧
    (let s := serving.modRot (at' 0) fun r => { r with meaning := some .idle, fresh := false }
     ¬ ((s.loc (at' 0)).rot.meaning ≠ some (s.choose (at' 0)).meaning ∨
        ((s.loc (at' 0)).rot.fresh = true ∧ (s.choose (at' 0)).meaning ≠ .blanked) ∨ (s.choose (at' 0)).advanced = true)) := by
  and_intros <;> decide +kernel

/-! ### The report queue -/

/-- A queue in order, with `n` entries of priority 3, then one of priority 1. -/
def filled (n : Nat) : List Entry := (List.range n).map (fun k => entry 3 k) ++ [entry 1 50]

theorem filled_order (n : Nat) (h : n < 32) : (reporting State.reset (filled n)).notices.InOrder := by
  have : ∀ m : Fin 32, (filled m.val).Pairwise Entry.before ∧ ((filled m.val).map Entry.age).Nodup ∧
      (∀ e ∈ filled m.val, e.age < 99) ∧ (∀ e ∈ filled m.val, 1 ≤ e.priority ∧ e.priority ≤ 3) := by
    unfold Entry.before
    decide +kernel
  obtain ⟨h1, h2, h3, h4⟩ := this ⟨n, h⟩
  have h5 : ∀ c, ClassTable.initial.get c ≤ 3 := by intro c; cases c <;> decide
  exact ⟨by simp [reporting, filled]; omega, h1, h2, h3, h4, h5, Nat.zero_le 3⟩

theorem witness_NoticeJoinsOrTheLeastIsDropped :
    ((reporting State.reset (filled 30)).notices.InOrder ∧ (reporting State.reset (filled 31)).notices.InOrder) ∧
    (reporting { State.reset with notices := { NoticeQueue.initial with classes := { ClassTable.initial with session := 0 } } } []
      ).notices.classes.get (Notice.session 0 1).cls = 0 ∧
    (0 < State.reset.notices.classes.get (Notice.session 0 1).cls ∧ (reporting State.reset (filled 30)).notices.entries.length < 32) ∧
    ((reporting State.reset (filled 31)).notices.entries.length = 32 ∧ entry 1 50 ∈ (reporting State.reset (filled 31)).notices.entries ∧
      (reporting State.reset (filled 31)).notices.transmitting ≠ some (entry 1 50).age ∧
      (∀ x ∈ (reporting State.reset (filled 31)).notices.entries,
        (entry 1 50).priority < x.priority ∨ ((entry 1 50).priority = x.priority ∧ x.age ≤ (entry 1 50).age)) ∧
      (entry 1 50).priority < State.reset.notices.classes.get (Notice.bus 0 .silent none).cls) ∧
    (∀ x ∈ (reporting State.reset (filled 31)).notices.entries, State.reset.notices.classes.get (Notice.session 0 1).cls ≤ x.priority) :=
  ⟨⟨filled_order 30 (by decide), filled_order 31 (by decide)⟩, by decide +kernel⟩

theorem witness_CandidateIsTheOldestOfTheHighestPriority :
    ((reporting State.reset (filled 0)).notices.InOrder ∧ (reporting State.reset (filled 30)).notices.InOrder) ∧
    ((reporting State.reset (filled 30)).notices.mask = 0 ∧ (reporting State.reset (filled 30)).notices.candidate.isSome = true ∧
      (reporting State.reset (filled 30)).held = false ∧ (reporting State.reset (filled 30)).link.replies = [] ∧
      (reporting State.reset (filled 30)).lcs = true) ∧
    ((waiting 0 (filled 30) 3).notices.mask = 3) ∧
    ((reporting State.reset (filled 0)).notices.mask < State.reset.notices.classes.get (Notice.bus 0 .silent none).cls ∧
      (reporting State.reset (filled 0)).notices.entries.length < 32 ∧
      ∀ x ∈ (reporting State.reset (filled 0)).notices.entries,
        x.priority < State.reset.notices.classes.get (Notice.bus 0 .silent none).cls) :=
  ⟨⟨filled_order 0 (by decide), filled_order 30 (by decide)⟩, by decide +kernel⟩

/-! ### Formats -/

theorem witness_CrcFollowsTheGeneratorPolynomial : ((0xE1#8 : Byte) ≠ busCrc [0x20#8] ∧
      (cleanBytes [0x20#8, 0xE1#8]).map PairByte.data = [0x20#8] ++ [0xE1#8]) ∧ (0x20#8 : Byte) ≠ 0x21#8 := by decide

theorem witness_RequestDecodeInvertsEncode :
    ((Instr.postTask 65535 255 255 255 65535 255 65535).wf = true ∧
      encodeRequest (.postTask 65535 255 255 255 65535 255 65535) = some (0x30, List.replicate 10 0xFF#8)) ∧
    decodeRequest 0x30 (List.replicate 10 0xFF#8) = some (.postTask 65535 255 255 255 65535 255 65535) := by decide

/-- A module without an address, its input asserted. -/
def fresh : LampModule := LampModule.dark 2#8 7 .asserted 0

theorem witness_PartAndModuleReadEachOthersFrames :
    255 < 256 ∧ 16 ≤ 16 ∧ 62 < 255 ∧ (fresh.powered = true ∧ fresh.address = none ∧ fresh.input = .asserted) ∧
    (fresh.setInput .low 0).input ≠ .asserted ∧
    ∃ x ∈ [({ data := 0x20, stop := true } : PairByte), { data := 0xE0, stop := false }], x.stop = false := by decide

/-- A module at address 1 with these events. -/
def holding (events : List HeldEvent) (nextBit : Bool) : LampModule := { fresh with address := some 1, events := events, nextBit := nextBit }

/-- A press with the bit. -/
def held (bit : Bool) : HeldEvent := { bit := bit, key := .confirm, token := 7, since := 255, pressed := 40 }

/-- A visit with no event, with one to accept, with an accepted one before another, and of a module that has been silent; a module
that takes an address in the walk and in the refill probe. -/
theorem witness_KeyEventsAreAcceptedOnceInOrder :
    (((visiting serving).bus 0).exchange = .visit 0 false ∧ ((visiting serving).loc (at' 0)).ack = true ∧
      (holding [] false).powered = true ∧ (holding [] false).address = some 1) ∧
    (inStep true (holding [] false) ∧ unaccepted true (holding [] false) = []) ∧
    (inStep true (holding [held false] true) ∧ unaccepted true (holding [held false] true) = [held false]) ∧
    (inStep true (holding [held true, held false] true) ∧ unaccepted true (holding [held true, held false] true) = [held false]) ∧
    inStep true { holding [] true with silent := true, takeBit := true } ∧
    (((during serving (.walkTake 61 true) .enrolling).bus 0).exchange = .walkTake 61 true ∧
      ((during (losing 1) (.probeTake 2 false)).bus 0).exchange = .probeTake 2 false ∧ fresh.powered = true ∧ fresh.address = none ∧
      fresh.input = .asserted ∧ fresh.events = [] ∧ (fresh.takeBit = true → fresh.silent = true) ∧
      ∀ token, fresh.token = some token → token < 8) := by
  unfold inStep
  refine ⟨by decide, ⟨⟨⟨trivial, by decide⟩, by decide, nofun⟩, rfl⟩, ⟨⟨⟨Bool.false_ne_true, by decide⟩, by decide, nofun⟩, by decide⟩,
    ⟨⟨⟨⟨by decide, Bool.false_ne_true⟩, by decide⟩, by decide, nofun⟩, by decide⟩, ⟨⟨rfl, rfl⟩, by decide, nofun⟩, rfl, rfl, rfl, rfl, rfl,
    rfl, by decide, nofun⟩

/-! ### What every step keeps -/

/-- A state in a transaction whose outbound record is the first of its notices, with a command at the front of the queue. -/
def sending : State :=
  { reporting (within [] true 3 (.notice (entry 3 0))) (filled 30) with
    pending := [.lcsRise (linkWave [0])],
    notices := { (reporting State.reset (filled 30)).notices with transmitting := some 0 } }

theorem witness_StepKeepsTheQueuesInOrder :
    sending.link.replies.length ≤ 4 ∧ sending.notices.InOrder ∧ sending.OutboundInPlace ∧ ∃ t, step sending = .next t := by
  have h := filled_order 30 (by decide)
  exact ⟨by decide, ⟨h.room, h.order, h.ages, h.young, h.priorities, h.classes, h.mask⟩, ⟨by decide +kernel, rfl⟩, _, rfl⟩

theorem witness_StepKeepsSupplyAndBusStates :
    serving.SupplyInv ∧ serving.RangesInv ∧ ∃ t, step { serving with pending := [.enrol 0] } = .next t := by
  have hb : ∀ b, serving.bus b = if b = 0 then { Bus.initial .service with scheduled := some 60 } else Bus.initial .unpowered := by
    decide
  have hf : ∀ b, serving.feed b = if b = 0 then { Feed.initial (some 2000) with level := 12, switchClosed := true }
      else Feed.initial (some 0) := by decide
  have hg : ∀ b, serving.governor b = Governor.initial := by decide
  refine ⟨⟨fun b => ?_, fun b => ?_, fun b => ?_⟩, ⟨?_, fun b => ?_, fun b => ?_, fun b => ?_⟩, _, rfl⟩
  · rw [hb]
    split <;> constructor <;> simp [Bus.initial, Bus.walking, Exchange.ofSweep]
  · rw [hb, hf, hg]
    split <;> constructor <;> simp [Bus.initial, Feed.initial, Governor.initial]
  · revert b
    decide
  · unfold Timing.inRange
    decide
  · rw [hb]
    unfold Bus.inRange
    split <;> decide
  · rw [hf]
    unfold Feed.inRange
    split <;> decide
  · rw [hg]
    unfold Governor.inRange
    decide

/-- A1 as its planning left it, under token 1. -/
def planned : State := (visiting serving).plan (at' 0)

theorem witness_StepKeepsLocationsCoherent :
    planned.PresenceInv ∧ (∀ l, (planned.loc l).rot.TokenNamesContent) ∧
    ∃ t, step { planned with pending := [.keysWindowExpiry 0] } = .next t := by
  have hl : ∀ l : Loc, l ≠ at' 0 → planned.loc l = Location.initial := by
    rintro ⟨b, i⟩
    revert b i
    decide +kernel
  have h0 : planned.loc (at' 0) = { fitted .display with rot := { Rotation.initial with
      token := 1, map := Rotation.initial.map.set 1 (some { meaning := .idle, issued := 60 }), meaning := some .idle,
      slotStart := some 60, fresh := false } } := by decide +kernel
  refine ⟨⟨fun l => ?_, ?_⟩, fun l => ?_, _, rfl⟩
  · by_cases h : l = at' 0
    · rw [h, h0]
      constructor <;> decide
    · rw [hl l h]
      constructor <;> decide
  · have : ∀ b i k, (planned.bus b).exchange = .visit i k → b = 0 ∧ i = 0 := by decide +kernel
    intro b i k h
    obtain ⟨rfl, rfl⟩ := this b i k h
    change (planned.loc (at' 0)).visited = true
    rw [h0]
    rfl
  · by_cases h : l = at' 0
    · rw [h, h0]
      intro m hm
      cases hm
      exact ⟨{ meaning := .idle, issued := 60 }, by decide, rfl⟩
    · rw [hl l h]
      intro m hm
      cases hm

theorem witness_StepKeepsSessionsAndTaskStore :
    chain3.SessionInv ∧ chain3.StoreInv ∧ ∃ t, step { chain3 with pending := [.closeSession 1] } = .next t := by
  have hs : ∀ i, chain3.session i = if i = 1 then staffed.session 1 else if i = 2 then staffed.session 2 else Session.initial := by
    decide
  have h1 : staffed.session 1 = { state := .active, colour := some .blue, priority := some 1,
                                  ranges := [{ bus := 0, first := 1, last := 20 }], pending := [] } := by decide
  have h2 : staffed.session 2 = { state := .suspended, colour := some .green, priority := some 0,
                                  ranges := [{ bus := 0, first := 1, last := 10 }], pending := [] } := by decide
  refine ⟨⟨fun i => ?_, fun i j => ?_⟩, chain3_store, _, rfl⟩
  · rw [hs, h1, h2]
    split
    · constructor <;> simp
    · split
      · constructor <;> simp
      · constructor <;> simp [Session.initial]
  · have : ∀ i j : Fin 8, i ≠ j → (chain3.session i).state ≠ .free → (chain3.session j).state ≠ .free →
        (chain3.session i).colour ≠ (chain3.session j).colour := by decide
    intro hij hi hj hc
    exact absurd hc (this i j hij hi hj)

theorem witness_EventsOfOneBusLeaveTheOthers :
    busOfCommand (.sweepStart 0) = some 0 ∧ busOfCommand (.keysAnswer 3 []) = some 3 ∧ (∃ t, exec (.sweepStart 0) serving = .next t) ∧
    (∀ frame, Instr.sweepStart 0 ≠ .keysAnswer 0 frame) ∧ (1 : Fin 4) ≠ 0 :=
  ⟨rfl, rfl, ⟨_, rfl⟩, (fun _ h => by cases h), by decide⟩

theorem witness_LampFramesShowOnlyOpenFrontTasks :
    gives (.sweepStart 0) (working [pick 700 1]) (fun t => decide ((t.bus 0).exchange = .visit 0 false ∧
      ((working [pick 700 1]).bus 0).exchange ≠ .visit 0 false ∧
      (t.loc (at' 0)).rot.meaning = some (.task { task := 700, slot := 1 }))) = true ∧
    (busOfCommand (.sweepStart 0) = some 0 ∧ ofPair (.sweepStart 0) = true) := by decide +kernel

end Sys2Proof.Tests
end

section
/-! The supply level and the load governor: R131 (level, band, derating) and R143 to R147 (currents, budget, sweep start). -/

namespace Sys2Proof.Machine

open Sys2Proof.Claims

/-! ### Level, band and derating of a supply (R131) -/

theorem levelOf_below {supply : Nat} (h : supply < 15750) : levelOf supply = 0 := if_pos h

theorem levelOf_le (supply : Nat) : levelOf supply ≤ 15 := by
  unfold levelOf
  split <;> omega

/-- The level is the highest step that the supply reaches: every threshold of R131 at once. -/
theorem le_levelOf_iff {supply k : Nat} (hk : 1 ≤ k) (hk' : k ≤ 15) :
    k ≤ levelOf supply ↔ 15750 + 750 * (k - 1) ≤ supply := by
  unfold levelOf
  split <;> omega

theorem deratingOf_eq (level : Nat) :
    deratingOf level = if 12 ≤ level then 4 else if 8 ≤ level then 3 else if 4 ≤ level then 2 else 1 := by
  unfold deratingOf bandOf
  split_ifs <;> rfl

/-- The lower ends of the bands, in levels. -/
theorem le_bandOf_iff (level : Nat) :
    (4 ≤ bandOf level ↔ 12 ≤ level) ∧ (3 ≤ bandOf level ↔ 8 ≤ level) ∧ (2 ≤ bandOf level ↔ 4 ≤ level) ∧
    (1 ≤ bandOf level ↔ 1 ≤ level) ∧ bandOf level ≤ 4 := by
  unfold bandOf
  split_ifs <;> omega

/-- The five bands in millivolts. -/
theorem bandOf_levelOf (supply : Nat) :
    (24000 ≤ supply ↔ bandOf (levelOf supply) = 4) ∧
    (21000 ≤ supply ∧ supply < 24000 ↔ bandOf (levelOf supply) = 3) ∧
    (18000 ≤ supply ∧ supply < 21000 ↔ bandOf (levelOf supply) = 2) ∧
    (15750 ≤ supply ∧ supply < 18000 ↔ bandOf (levelOf supply) = 1) ∧
    (supply < 15750 ↔ bandOf (levelOf supply) = 0) := by
  obtain ⟨band4, band3, band2, band1, top⟩ := le_bandOf_iff (levelOf supply)
  have level12 := le_levelOf_iff (supply := supply) (k := 12) (by omega) (by omega)
  have level8 := le_levelOf_iff (supply := supply) (k := 8) (by omega) (by omega)
  have level4 := le_levelOf_iff (supply := supply) (k := 4) (by omega) (by omega)
  have level1 := le_levelOf_iff (supply := supply) (k := 1) (by omega) (by omega)
  omega

/-! ### The level that a completed sample leaves -/

namespace State

variable (s : State)

theorem level_recordSample (b : Fin 4) (level : Nat) : ((s.recordSample b level).feed b).level = level := by
  simp only [recordSample]
  split <;> simp

theorem level_declareBrownout (b : Fin 4) : ((s.declareBrownout b).feed b).level = (s.feed b).level := by
  simp [declareBrownout]

theorem level_recover (b : Fin 4) (level : Nat) : ((s.recover b level).feed b).level = (s.feed b).level := by
  simp only [recover]
  split <;> simp

theorem level_supplyCheck (b : Fin 4) (level : Nat) : ((s.supplyCheck b level).feed b).level = (s.feed b).level := by
  unfold supplyCheck
  split_ifs
  · exact level_declareBrownout s b
  · rfl
  · exact level_recover s b level
  · rfl
  · rfl

theorem level_completeSample (b : Fin 4) (start : Instant) (level : Nat) :
    ((s.completeSample b start level).feed b).level = level := by
  simp [completeSample, level_supplyCheck, level_recordSample]

end State

/-- A sample whose 8 ms have passed is processed with the level of the supply (R132). -/
theorem exec_sampleComplete_due {s : State} {b : Fin 4} {supply start : Nat} (running : (s.feed b).runStart = some start)
    (due : start + 8 ≤ s.now) :
    exec (.sampleComplete b supply) s = .next (s.completeSample b start (levelOf supply)) := by
  change execSampleComplete b supply s = _
  simp only [execSampleComplete, running, if_pos due]

/-- Settles O41: the thresholds come from `le_levelOf_iff`, the bands from `bandOf_levelOf`. -/
theorem levelsAndBandsFollowTheSupply : Obligations.LevelsAndBandsFollowTheSupply := by
  refine ⟨fun s b supply start running due => ?_, fun supply => ?_, rfl, bandOf_levelOf, fun level => ?_, fun supply => ?_⟩
  · exact ⟨_, exec_sampleComplete_due running due, s.level_completeSample b start (levelOf supply)⟩
  · exact ⟨levelOf_below, levelOf_le supply, fun k => le_levelOf_iff⟩
  · exact ⟨rfl, deratingOf_eq level⟩
  · have level2 := le_levelOf_iff (supply := supply) (k := 2) (by omega) (by omega)
    have level15 := le_levelOf_iff (supply := supply) (k := 15) (by omega) (by omega)
    have top := levelOf_le supply
    omega

/-! ### The currents of a sweep start (R143) -/

theorem sum_map_filter {α : Type} (p : α → Bool) (f : α → Nat) (l : List α) :
    ((l.filter p).map f).sum = (l.map fun a => if p a = true then f a else 0).sum := by
  simp [List.sum_map_ite]

/-- A display draws for its digits where a character of its forecast is not blank (R45, R143). -/
theorem showsDigits_display (f : Face) : showsDigits (some .display) f = true ↔
    ¬ (f.chars.left = .blank ∧ f.chars.mid = .blank ∧ f.chars.right = .blank) := by
  simp [showsDigits, Glyph.lit]
  tauto

namespace State

variable (s : State)

theorem baseAt_eq (l : Loc) : s.baseAt l = baseCurrent s l := by
  unfold baseAt baseCurrent
  cases hk : (s.loc l).kind with
  | none => rfl
  | some kind =>
    cases kind with
    | button => rfl
    | display =>
      simp only [showsDigits_display, forecast]
      split_ifs <;> rfl

theorem demandAt_eq (l : Loc) : s.demandAt l = lampDemand s l := by
  unfold demandAt lampDemand forecast
  cases (s.choose l).face.colour with
  | none => rfl
  | some c => cases c <;> rfl

/-- The model's sum over the visited locations, half by half, is the sum of the statement. -/
theorem sum_visitedLocs (b : Fin 4) (node : Nat → Bool) (f : State → Loc → Nat) :
    (((s.visitedLocs b).filter fun l => node l.node).map (f s)).sum = currentOver s b node f := by
  unfold visitedLocs currentOver
  rw [List.filter_filter, sum_map_filter, List.map_map]
  congr 2
  funext i
  simp only [Function.comp_apply, Bool.and_eq_true, Location.visited_iff, and_comm]

/-- The budget of a sweep start, from the currents of R143. -/
theorem sweepBudget_eq (b : Fin 4) :
    s.sweepBudget b = budget (s.governor b).capacity (s.feed b).level (currentOver s b (fun _ => true) baseCurrent)
      (currentOver s b (fun n => n % 2 == 0) lampDemand) (currentOver s b (fun n => n % 2 == 1) lampDemand) := by
  have base : s.baseAt = baseCurrent s := funext s.baseAt_eq
  have demand : s.demandAt = lampDemand s := funext s.demandAt_eq
  have all := s.sum_visitedLocs b (fun _ => true) baseCurrent
  simp only [List.filter_true] at all
  rw [← all, ← sum_visitedLocs, ← sum_visitedLocs, ← base, ← demand]
  rfl

end State

/-! ### The budget: mode, scale and overload (R144, R145) -/

/-- A demand at the scale computed for it stays within the headroom, for the scale is rounded down. -/
theorem demand_mul_scale_le (demand headroom : Nat) : demand * min 16 (16 * headroom / demand) ≤ 16 * headroom :=
  calc demand * min 16 (16 * headroom / demand) ≤ demand * (16 * headroom / demand) :=
        Nat.mul_le_mul_left _ (Nat.min_le_right ..)
    _ ≤ 16 * headroom := Nat.mul_div_le ..

/-- The budget by the scale `whole` of the whole demand and the scale `half` of its larger half. -/
theorem budget_eq (capacity level base even odd : Nat) :
    let headroom := capacity * deratingOf level / 4 - base
    let whole := min 16 (16 * headroom / (even + odd))
    let half := min 16 (16 * headroom / max even odd)
    budget capacity level base even odd =
      { mode := if 0 < even + odd ∧ whole < 4 then .alternate else .steady,
        scale := if even + odd = 0 then 16 else if 4 ≤ whole then whole else if 4 ≤ half then half else 4,
        overload := decide (0 < even + odd ∧ whole < 4 ∧ half < 4) } := by
  intro headroom whole half
  change (if even + odd = 0 then Budget.mk .steady 16 false else if 4 ≤ whole then Budget.mk .steady whole false
    else if 4 ≤ half then Budget.mk .alternate half false else Budget.mk .alternate 4 true) = _
  by_cases dark : even + odd = 0
  · simp [dark]
  have lit : 0 < even + odd := Nat.pos_of_ne_zero dark
  by_cases fits : 4 ≤ whole
  · simp only [if_neg dark, if_pos fits, Nat.not_lt.mpr fits, false_and, and_false, if_false, decide_false]
  have short : whole < 4 := Nat.lt_of_not_le fits
  by_cases halfFits : 4 ≤ half
  · simp only [if_neg dark, if_neg fits, if_pos halfFits, lit, short, Nat.not_lt.mpr halfFits, and_true, and_false, if_true,
      decide_false]
  · simp only [if_neg dark, if_neg fits, if_neg halfFits, lit, short, Nat.lt_of_not_le halfFits, and_true, if_true,
      decide_true]

section

variable (capacity level base even odd : Nat)

theorem budget_scale_range : 4 ≤ (budget capacity level base even odd).scale ∧
    (budget capacity level base even odd).scale ≤ 16 := by
  rw [budget_eq]
  dsimp only
  split_ifs <;> omega

/-- In STEADY the whole demand fits at the scale. -/
theorem budget_steady_fits (steady : (budget capacity level base even odd).mode = .steady) :
    (even + odd) * (budget capacity level base even odd).scale ≤ 16 * (capacity * deratingOf level / 4 - base) ∨
    even + odd = 0 := by
  rw [budget_eq] at steady ⊢
  by_cases dark : even + odd = 0
  · exact .inr dark
  have fits : 4 ≤ min 16 (16 * (capacity * deratingOf level / 4 - base) / (even + odd)) := by
    by_contra short
    simp [Nat.pos_of_ne_zero dark, Nat.lt_of_not_le short] at steady
  simp only [if_neg dark, if_pos fits]
  exact .inl (demand_mul_scale_le ..)

/-- In ALTERNATE the larger half has a lamp to light, and unless in overload it fits at the scale. -/
theorem budget_alternate_fits (alternate : (budget capacity level base even odd).mode = .alternate) :
    0 < max even odd ∧ ((budget capacity level base even odd).overload = false →
      max even odd * (budget capacity level base even odd).scale ≤ 16 * (capacity * deratingOf level / 4 - base)) := by
  rw [budget_eq] at alternate ⊢
  obtain ⟨lit, short⟩ : 0 < even + odd ∧ min 16 (16 * (capacity * deratingOf level / 4 - base) / (even + odd)) < 4 := by
    by_contra steady
    simp only [if_neg steady, reduceCtorEq] at alternate
  refine ⟨by omega, fun noExcess => ?_⟩
  have halfFits : 4 ≤ min 16 (16 * (capacity * deratingOf level / 4 - base) / max even odd) := by
    by_contra excess
    exact of_decide_eq_false noExcess ⟨lit, short, Nat.lt_of_not_le excess⟩
  simp only [if_neg lit.ne', if_neg (Nat.not_le.mpr short), if_pos halfFits]
  exact demand_mul_scale_le ..

end

/-! ### The sweep start (R145, R147) -/

theorem phaseExpiryAfter_eq (mode : GovernorMode) (now : Instant) (old : Option Instant) :
    phaseExpiryAfter mode now old = if mode = .alternate then some (old.getD (now + 500)) else none := by
  cases mode <;> cases old <;> rfl

namespace State

variable (s : State)

/-- A sweep start writes the budget into the governor and tells a change of the overload flag. -/
theorem governSweep_eq (b : Fin 4) :
    let g := s.governor b
    let r := s.sweepBudget b
    let u := s.setGovernor b { g with mode := r.mode, scale := r.scale, overload := r.overload,
                                      phaseExpiry := if r.mode = .alternate then some (g.phaseExpiry.getD (s.now + 500)) else none }
    s.governSweep b =
      if r.overload = true ∧ g.overload = false then u.queueNotice (.supply b .overload (s.feed b).level none)
      else if r.overload = false ∧ g.overload = true then u.queueNotice (.supply b .overloadEnd (s.feed b).level none)
      else u := by
  intro g r u
  have written : (s.modGovernor b fun g =>
      { g with mode := r.mode, scale := r.scale, overload := r.overload,
               phaseExpiry := phaseExpiryAfter r.mode s.now g.phaseExpiry }) = u := by
    simp only [modGovernor, phaseExpiryAfter_eq, u, g]
  simp only [governSweep]
  rw [written]
  simp [u, g, r, and_comm]

theorem queueNotice_priority_zero {n : Notice} (closure : Option Nat) (h : s.notices.classes.get n.cls = 0) :
    s.queueNotice n closure = s := by
  rw [queueNotice_eq, if_pos h]

/-- With the SUPPLY class at priority 0 nothing is told (R151). -/
theorem governSweep_silent (b : Fin 4) (h : s.notices.classes.supply = 0) : (s.governSweep b).notices = s.notices := by
  have silent : ∀ (x : Governor) (e : SupplyEvent) (level : Nat),
      (s.setGovernor b x).queueNotice (.supply b e level none) = s.setGovernor b x :=
    fun x _ _ => queueNotice_priority_zero (s.setGovernor b x) none h
  rw [governSweep_eq]
  simp only [silent, ite_self, setGovernor_frame]

end State

/-- Settles O42: the model's budget has the statement's mode, scale and overload, so the sweep start is `governSweep_eq`
and the bounds are those of the budget. -/
theorem governorFixesModeAndScale : Obligations.GovernorFixesModeAndScale := by
  intro s b g level f headroom even odd whole half excess mode scale expiry u
  have derating : deratingOf level = f := deratingOf_eq level
  have computed : budget g.capacity level (currentOver s b (fun _ => true) baseCurrent) even odd =
      { mode := mode, scale := scale, overload := excess } := by
    rw [budget_eq, derating]
  have steady := budget_steady_fits g.capacity level (currentOver s b (fun _ => true) baseCurrent) even odd
  have alternate := budget_alternate_fits g.capacity level (currentOver s b (fun _ => true) baseCurrent) even odd
  have range := budget_scale_range g.capacity level (currentOver s b (fun _ => true) baseCurrent) even odd
  rw [computed, derating] at steady alternate
  rw [computed] at range
  -- How the three come from the currents is used up: what follows needs only that they are the budget's.
  clear_value mode scale excess
  refine ⟨?_, steady, fun hm => ⟨(alternate hm).1, fun he => ?_⟩, range.1, range.2, s.governSweep_silent b⟩
  · have sweep := s.governSweep_eq b
    rw [s.sweepBudget_eq b, computed] at sweep
    exact sweep
  · have larger := (alternate hm).2 he
    exact ⟨le_trans (Nat.mul_le_mul_right _ (le_max_left ..)) larger,
      le_trans (Nat.mul_le_mul_right _ (le_max_right ..)) larger⟩

end Sys2Proof.Machine
end

section
/-! The report queue: the candidate of R153, its signals on the link port, and what the mask level leaves alone. -/

namespace Sys2Proof.Machine

/-! ### Queue order (R152) -/

theorem Entry.before_asymm {a b : Entry} (h : a.before b) : ¬ b.before a := by
  unfold before at *
  omega

theorem Entry.before_iff {a b : Entry} :
    a.before b ↔ b.priority < a.priority ∨ (b.priority = a.priority ∧ a.age < b.age) :=
  or_congr_right (and_congr_left' eq_comm)

/-- An entry above every queued priority joins at the head. -/
theorem insertEntry_of_forall_lt {e : Entry} {q : List Entry} (above : ∀ x ∈ q, x.priority < e.priority) :
    insertEntry e q = e :: q := by
  cases q with
  | nil => rfl
  | cons x q =>
    have lower : ¬ e.priority ≤ x.priority := Nat.not_le.mpr (above x List.mem_cons_self)
    simp [insertEntry, lower]

/-! ### The candidate (R153) -/

namespace NoticeQueue

variable {q : NoticeQueue}

theorem candidate_eq_none_iff : q.candidate = none ↔ ∀ x ∈ q.entries, x.priority ≤ q.mask := by
  simp [candidate]

theorem candidate_sendable {e : Entry} (h : q.candidate = some e) : e ∈ q.entries ∧ q.mask < e.priority :=
  ⟨List.mem_of_find?_eq_some h, of_decide_eq_true (List.find?_some (p := fun x : Entry => decide (q.mask < x.priority)) h)⟩

/-- The entries ahead of the candidate are masked, so queue order puts it before every other sendable one. -/
theorem candidate_before (ordered : q.InOrder) {e x : Entry} (h : q.candidate = some e) (queued : x ∈ q.entries)
    (other : x ≠ e) (sendable : q.mask < x.priority) : e.before x := by
  obtain ⟨-, ahead, behind, parts, masked⟩ := List.find?_eq_some_iff_append.mp h
  have order := ordered.order
  rw [parts] at order queued
  rcases List.mem_append.mp queued with inAhead | inRest
  · exact absurd sendable (by simpa using masked x inAhead)
  · have inBehind : x ∈ behind := (List.mem_cons.mp inRest).resolve_left other
    obtain ⟨-, fromCandidate, -⟩ := List.pairwise_append.mp order
    exact List.rel_of_pairwise_cons fromCandidate inBehind

theorem candidate_eq_some_iff (ordered : q.InOrder) (e : Entry) :
    q.candidate = some e ↔ e ∈ q.entries ∧ q.mask < e.priority ∧
      ∀ x ∈ q.entries, x ≠ e → q.mask < x.priority → e.before x := by
  constructor
  · intro h
    obtain ⟨queued, sendable⟩ := candidate_sendable h
    exact ⟨queued, sendable, fun x => candidate_before ordered h⟩
  · rintro ⟨queued, sendable, first⟩
    cases found : q.candidate with
    | none => exact absurd sendable (Nat.not_lt.mpr (candidate_eq_none_iff.mp found e queued))
    | some c =>
      obtain ⟨cQueued, cSendable⟩ := candidate_sendable found
      by_contra differ
      have other : c ≠ e := fun same => differ (congrArg some same)
      exact Entry.before_asymm (first c cQueued other cSendable)
        (candidate_before ordered found queued other.symm sendable)

/-- Mask level 0 lets every entry through, for the priorities begin at 1. -/
theorem candidate_of_mask_zero (ordered : q.InOrder) (h : q.mask = 0) : q.candidate = q.entries.head? := by
  unfold candidate
  cases entries : q.entries with
  | nil => rfl
  | cons e es =>
    have positive := (ordered.priorities e (by simp [entries])).1
    exact List.find?_cons_of_pos (decide_eq_true (by omega))

/-- Mask level 3 holds every entry back, for the priorities end at 3. -/
theorem candidate_of_mask_three (ordered : q.InOrder) (h : q.mask = 3) : q.candidate = none :=
  candidate_eq_none_iff.mpr fun x queued => h ▸ (ordered.priorities x queued).2

/-- A joining entry above the mask level and above every queued priority is the candidate. -/
theorem candidate_join {e : Entry} (sendable : q.mask < e.priority) (above : ∀ x ∈ q.entries, x.priority < e.priority) :
    (q.join e).candidate = some e := by
  unfold candidate join
  rw [insertEntry_of_forall_lt above]
  exact List.find?_cons_of_pos (decide_eq_true sendable)

/-- The mask level plays no part in the capacity and in what is dropped. -/
theorem offer_mask (q : NoticeQueue) (mask : Nat) (e : Entry) :
    offer { q with mask := mask } e = ({ (q.offer e).1 with mask := mask }, (q.offer e).2) := by
  have sameVictim : victim { q with mask := mask } = q.victim := rfl
  unfold offer
  rw [sameVictim]
  by_cases room : q.entries.length < 32
  · simp only [if_pos room]
    rfl
  · simp only [if_neg room]
    cases q.victim with
    | none => rfl
    | some v =>
      by_cases displaced : v.priority < e.priority
      · simp only [if_pos displaced]
        rfl
      · simp only [if_neg displaced]

end NoticeQueue

namespace State

variable (s : State)

theorem queueNotice_mask (mask : Nat) (n : Notice) (closure : Option Nat) :
    ({ s with notices := { s.notices with mask := mask } } : State).queueNotice n closure =
      { s.queueNotice n closure with notices := { (s.queueNotice n closure).notices with mask := mask } } := by
  simp only [queueNotice_eq, NoticeQueue.offer_mask]
  split <;> rfl

/-- A notice of a class above priority 0 joins a queue with room. -/
theorem notices_queueNotice_of_room {n : Notice} (closure : Option Nat) (made : s.notices.classes.get n.cls ≠ 0)
    (room : s.notices.entries.length < 32) :
    (s.queueNotice n closure).notices = s.notices.join
      { notice := n, priority := s.notices.classes.get n.cls, stamp := s.now % 65536, age := s.notices.nextAge,
        closure := closure } := by
  simp only [queueNotice_eq, if_neg made, NoticeQueue.offer, if_pos room]

/-! ### The candidate on the link port (R163, R164, R170) -/

/-- Bit 2 of the status byte is the NOTICE field. -/
theorem statusByte_notice : s.statusByte.getLsbD 2 = s.notices.candidate.isSome := by
  have notice := Bool.toNat_le s.notices.candidate.isSome
  have lost := Bool.toNat_le s.notices.lost
  have bit : (64 * s.link.lastOutcome.code + 8 * s.link.replies.length + 4 * s.notices.candidate.isSome.toNat
      + 2 * s.notices.lost.toNat + 1) / 2 ^ 2 % 2 = s.notices.candidate.isSome.toNat := by omega
  rw [statusByte, BitVec.getLsbD_ofNat, Nat.testBit_eq_decide_div_mod_eq, bit]
  cases s.notices.candidate.isSome <;> rfl

theorem attn_of_candidate (working : s.held = false) (waiting : s.notices.candidate.isSome = true) : s.attn = true := by
  simp [attn, working, waiting]

/-- The fall of LCS begins a transaction. -/
theorem exec_lcsFall (working : s.held = false) (high : s.lcs = true) :
    exec .lcsFall s = .next ({ s with lcs := false } : State).beginTransaction := by
  change execLcsFall s = _
  simp [execLcsFall, working, high]

theorem outbound_beginTransaction : s.beginTransaction.link.outbound = some s.chooseOutbound := rfl

/-- Where no answer waits, the outbound record is the candidate, or the empty record without one. -/
theorem chooseOutbound_of_no_answer (noAnswer : s.link.replies = []) :
    s.chooseOutbound = (s.notices.candidate.map Outbound.notice).getD .empty := by
  unfold chooseOutbound
  rw [noAnswer]
  cases s.notices.candidate <;> rfl

end State

/-- Settles O49: queue order makes the first sendable entry the oldest of the highest priority
(`NoticeQueue.candidate_eq_some_iff`). -/
theorem candidateIsTheOldestOfTheHighestPriority : Obligations.CandidateIsTheOldestOfTheHighestPriority := by
  intro s ordered q
  refine ⟨fun e => ?_, NoticeQueue.candidate_eq_none_iff, NoticeQueue.candidate_of_mask_zero ordered,
    NoticeQueue.candidate_of_mask_three ordered, s.queueNotice_mask, s.statusByte_notice, s.attn_of_candidate, ?_, ?_⟩
  · simpa only [Entry.before_iff] using NoticeQueue.candidate_eq_some_iff ordered e
  · intro working noAnswer high
    exact ⟨_, s.exec_lcsFall working high,
      congrArg some (({ s with lcs := false } : State).chooseOutbound_of_no_answer noAnswer)⟩
  · intro n closure sendable room above
    rw [s.notices_queueNotice_of_room closure (Nat.ne_zero_of_lt sendable) room, NoticeQueue.candidate_join sendable above]
    rfl

end Sys2Proof.Machine
end

section
/-! The bus CRC (R180): the register of the generator polynomial loses nothing, so a changed byte shows in the CRC; and what part
and module do with a frame that does not carry its CRC. -/

namespace Sys2Proof.Machine

/-! ### The CRC register -/

/-- A shift moves every bit one place up, and the bit shifted out decides whether the polynomial is combined in. -/
theorem crcShift_eq (r : Byte) : crcShift r = (r <<< 1) ^^^ (if r.getLsbD 7 then 7#8 else 0#8) := by
  have topBit : r.getMsbD 0 = r.getLsbD 7 := by simp [BitVec.getMsbD]
  unfold crcShift
  rw [topBit]
  split_ifs
  · rfl
  · exact (BitVec.xor_zero).symm

/-- The polynomial is odd, so the bit shifted out comes back as bit 0. -/
theorem getLsbD_zero_crcShift (r : Byte) : (crcShift r).getLsbD 0 = r.getLsbD 7 := by
  rw [crcShift_eq]
  cases r.getLsbD 7 <;> simp

theorem crcShift_injective : Function.Injective crcShift := by
  intro r q same
  have top : r.getLsbD 7 = q.getLsbD 7 := by rw [← getLsbD_zero_crcShift, same, getLsbD_zero_crcShift]
  have rest : r <<< 1 = q <<< 1 := by
    rw [crcShift_eq, crcShift_eq, top] at same
    exact (BitVec.xor_left_inj _).mp same
  ext i inByte
  by_cases isTop : i = 7
  · subst isTop
    exact top
  · have moved := congrArg (fun x : Byte => x.getLsbD (i + 1)) rest
    have stays : i + 1 < 8 := by omega
    simpa [stays] using moved

theorem crcByte_eq (r x : Byte) : crcByte r x = crcShift^[8] (r ^^^ x) := rfl

theorem crcByte_injective (r : Byte) : Function.Injective (crcByte r) := fun _ _ same =>
  (BitVec.xor_right_inj r).mp (crcShift_injective.iterate 8 same)

theorem crcByte_register_injective (x : Byte) : Function.Injective fun r => crcByte r x := fun _ _ same =>
  (BitVec.xor_left_inj x).mp (crcShift_injective.iterate 8 same)

/-- Different registers stay different, whatever bytes follow. -/
theorem foldl_crcByte_injective (after : List Byte) : Function.Injective fun r => after.foldl crcByte r := by
  induction after with
  | nil => exact Function.injective_id
  | cons x after ih => exact ih.comp (crcByte_register_injective x)

/-! ### The CRC of a run of bytes -/

theorem busCrc_append (before after : List Byte) : busCrc (before ++ after) = after.foldl crcByte (busCrc before) :=
  List.foldl_append

theorem busCrc_ne_of_byte_ne (before after : List Byte) {x y : Byte} (changed : x ≠ y) :
    busCrc (before ++ x :: after) ≠ busCrc (before ++ y :: after) := by
  rw [busCrc_append, busCrc_append]
  exact (foldl_crcByte_injective after).ne ((crcByte_injective (busCrc before)).ne changed)

theorem bytes_eq_withCrc (f : AisleFrame) : ∃ bytes, bytes ≠ [] ∧ f.bytes = withCrc bytes := by
  cases f <;> exact ⟨_, List.cons_ne_nil _ _, rfl⟩

/-! ### Frames that do not carry their CRC -/

/-- Bytes that do not end with the CRC of the bytes before it (R111, R180). -/
def WrongCrc (frame : List Byte) : Prop := ∀ bytes, frame ≠ withCrc bytes

theorem wrongCrc_append {bytes : List Byte} {crc : Byte} : WrongCrc (bytes ++ [crc]) ↔ crc ≠ busCrc bytes := by
  constructor
  · rintro wrong rfl
    exact wrong bytes rfl
  · intro wrong others same
    obtain ⟨rfl, last⟩ := List.append_inj' same rfl
    exact wrong (List.singleton_inj.mp last)

namespace WrongCrc

variable {frame : List Byte} {a : Nat}

theorem readKeys (wrong : WrongCrc frame) (ha : a < 256) : readKeys a frame = none :=
  readKeys_none ha fun _ _ _ _ _ => wrong _

theorem readIdentity (wrong : WrongCrc frame) (ha : a < 256) (kind : Byte) : readIdentity kind a frame = none :=
  readIdentity_none ha fun _ _ _ _ _ => wrong _

theorem readHere (wrong : WrongCrc frame) (ha : a < 256) : readHere a frame = false :=
  Bool.eq_false_iff.mpr fun good => wrong _ ((readHere_iff ha frame).mp good)

/-- A module reads every kind of frame with its CRC only. -/
theorem readFrame (wrong : WrongCrc frame) : readFrame frame = none := by
  unfold Machine.readFrame
  split
  case h_1 => exact if_neg (wrongCrc_append.mp wrong)
  case h_2 => exact if_pos (wrongCrc_append.mp wrong)
  case h_3 => exact if_neg (wrongCrc_append.mp wrong)
  case h_4 => rfl

theorem of_goodBytes {received : List PairByte} (wrong : WrongCrc (received.map PairByte.data))
    (clean : goodBytes received = some frame) : WrongCrc frame := by
  rw [goodBytes_eq_some] at clean
  simpa [clean, cleanBytes, Function.comp_def] using wrong

/-- A reader that refuses bytes with a wrong CRC finds nothing in a received frame with a wrong CRC, whatever its stop bits. -/
theorem goodBytes_bind {α : Type} {received : List PairByte} {read : List Byte → Option α}
    (wrong : WrongCrc (received.map PairByte.data)) (unread : ∀ {frame}, WrongCrc frame → read frame = none) :
    (goodBytes received).bind read = none :=
  Option.bind_eq_none_iff.mpr fun _ clean => unread (wrong.of_goodBytes clean)

theorem goodBytes_any_readHere {received : List PairByte} (wrong : WrongCrc (received.map PairByte.data)) (ha : a < 256) :
    (goodBytes received).any (Machine.readHere a) = false := by
  cases clean : goodBytes received with
  | none => rfl
  | some bytes => exact (wrong.of_goodBytes clean).readHere ha

end WrongCrc

/-! ### Frames that are no answer -/

section

variable {s : State} {b : Fin 4} {frame : List PairByte}

theorem exec_keysAnswer_unread (unread : ∀ a < 256, (goodBytes frame).bind (readKeys a) = none) :
    exec (.keysAnswer b frame) s = .next s := by
  change execKeysAnswer b frame s = _
  unfold execKeysAnswer
  split
  · rw [unread _ (by omega)]
  · rfl

theorem exec_identifyReply_unread (unread : ∀ a < 256, (goodBytes frame).bind (readIdentifyReply a) = none) :
    exec (.identifyReply b frame) s = .next s := by
  change execIdentifyReply b frame s = _
  unfold execIdentifyReply
  split
  · rw [unread _ (by omega)]
  · rfl

theorem exec_takenAnswer_unread (unread : ∀ a < 256, (goodBytes frame).bind (readTaken a) = none) :
    exec (.takenAnswer b frame) s = .next s := by
  change execTakenAnswer b frame s = _
  unfold execTakenAnswer
  split
  · rw [unread _ (by omega)]
  · rw [unread _ (by omega)]
  · rfl

theorem exec_hereAnswer_unread (unread : ∀ a < 256, (goodBytes frame).any (readHere a) = false) :
    exec (.hereAnswer b frame) s = .next s := by
  change execHereAnswer b frame s = _
  unfold execHereAnswer
  split
  · rw [unread _ (by omega)]
    rfl
  · rw [unread _ (by omega)]
    rfl
  · rfl

theorem receive_unread {m : LampModule} {now : Instant} (unread : (goodBytes frame).bind readFrame = none) :
    m.receive frame now = (m, none) := by
  unfold LampModule.receive
  rw [unread]
  exact ite_self _

end

/-- Settles O50: a shift of the register is injective (`crcShift_injective`), and no reader reads a frame with a wrong CRC
(`WrongCrc`). -/
theorem crcFollowsTheGeneratorPolynomial : Obligations.CrcFollowsTheGeneratorPolynomial := by
  unfold Obligations.CrcFollowsTheGeneratorPolynomial
  intro shift
  have shift_eq : crcShift = shift := rfl
  refine ⟨rfl, fun bytes x => ?_, bytes_eq_withCrc, fun bytes crc frame wrong received => ?_,
    fun before after x y => busCrc_ne_of_byte_ne before after⟩
  · rw [busCrc_append, ← shift_eq]
    exact crcByte_eq _ _
  · have wrongCrc : WrongCrc (frame.map PairByte.data) := received ▸ wrongCrc_append.mpr wrong
    refine ⟨fun b s => ⟨?_, ?_, ?_, ?_⟩, fun m now => ?_⟩
    · exact exec_keysAnswer_unread fun a ha => wrongCrc.goodBytes_bind fun bad => bad.readKeys ha
    · exact exec_identifyReply_unread fun a ha => wrongCrc.goodBytes_bind fun bad => bad.readIdentity ha _
    · exact exec_takenAnswer_unread fun a ha => wrongCrc.goodBytes_bind fun bad => bad.readIdentity ha _
    · exact exec_hereAnswer_unread fun a ha => wrongCrc.goodBytes_any_readHere ha
    · exact receive_unread (wrongCrc.goodBytes_bind fun bad => bad.readFrame)

end Sys2Proof.Machine
end

section
/-! What a command can do, said once: a request row is its owner's request, and a command of a bus has no effect or makes one of
the steps listed here. Every agreement that the steps keep is proved from these inversions. -/

namespace Sys2Proof.Machine

open Sys2Proof.Claims

/-! ### Requests (R166, R169) -/

/-- The owner's execution of a request; none for the commands that are no requests. -/
def requestOwner : Instr → Option (State → State × Answer)
  | .unknownRequest kind => some fun s => s.unknownRequest kind
  | .partStatus => some fun s => s.partStatus
  | .resetPart => some fun s => s.resetPart
  | .setClass cls priority => some fun s => s.setClass cls priority
  | .setMask level => some fun s => s.setMask level
  | .setTiming cycle minDwell guard hold linger => some fun s => s.setTiming cycle minDwell guard hold linger
  | .setSweep bus period => some fun s => s.setSweep bus period
  | .setFeed bus capacity mode => some fun s => s.setFeedRequest bus capacity mode
  | .enrol bus => some fun s => s.enrolRequest bus
  | .resetBus bus => some fun s => s.resetBusRequest bus
  | .queryBus bus => some fun s => s.queryBus bus
  | .queryLocation bus node => some fun s => s.queryLocation bus node
  | .directSet bus node colour char0 char1 char2 blink => some fun s => s.directSet bus node colour char0 char1 char2 blink
  | .directEnd bus node => some fun s => s.directEnd bus node
  | .openSession slot colour priority => some fun s => s.openSession slot colour priority
  | .grant slot bus first last => some fun s => s.grantRange slot bus first last
  | .revoke slot index => some fun s => s.revokeRange slot index
  | .setPriority slot priority => some fun s => s.changePriority slot priority
  | .suspend slot => some fun s => s.suspendSession slot
  | .resume slot => some fun s => s.resumeSession slot
  | .closeSession slot => some fun s => s.closeSession slot
  | .querySession slot => some fun s => s.querySession slot
  | .postTask id slot bus node requested shortMode pred => some fun s => s.postTask id slot bus node requested shortMode pred
  | .amendTask id requested => some fun s => s.amendTask id requested
  | .withdrawTask id cascade => some fun s => s.withdrawTask id cascade
  | .queryTask id => some fun s => s.queryTask id
  | _ => none

/-- A request row and the link port run the same operation. -/
theorem exec_of_owner {i : Instr} {f : State → State × Answer} (owned : requestOwner i = some f) (s : State) :
    exec i s = .next (s.request f) := by
  cases i <;> cases owned <;> rfl

theorem State.runRequest_of_owner {i : Instr} {f : State → State × Answer} (owned : requestOwner i = some f) (s : State) :
    s.runRequest i = s.request f := by
  cases i <;> cases owned <;> rfl

theorem State.runRequest_of_no_owner {i : Instr} (unowned : requestOwner i = none) (s : State) : s.runRequest i = s := by
  cases i <;> first | rfl | cases unowned

theorem exec_request {i : Instr} (owned : (requestOwner i).isSome = true) (s : State) : exec i s = .next (s.runRequest i) := by
  obtain ⟨f, hf⟩ := Option.isSome_iff_exists.1 owned
  rw [exec_of_owner hf, State.runRequest_of_owner hf]

/-- A request has no effect in reset, only shows its outcome where no answer fits, and else is executed and answered. -/
theorem State.request_cases (s : State) (f : State → State × Answer) :
    s.request f = s ∨ s.request f = { s with link := { s.link with lastOutcome := .notReady } } ∨
    (Takes s ∧ s.request f = answered (f s).1 (f s).2) := by
  unfold State.request
  by_cases held : s.held = true
  · exact .inl (if_pos held)
  · rw [if_neg held]
    by_cases room : s.link.replies.length < 4
    · exact .inr (.inr ⟨⟨Bool.eq_false_iff.2 held, room⟩, if_pos room⟩)
    · exact .inr (.inl (if_neg room))

/-- A session request is refused for its slot number, or is its body on the slot. -/
theorem State.withSlot_keeps {P : State × Answer → Prop} {s : State} {kind slot : Nat} {f : Fin 8 → State × Answer}
    (refused : P (s.refuse kind .badField)) (body : ∀ i, P (f i)) : P (s.withSlot kind slot f) := by
  unfold State.withSlot
  split
  · exact refused
  · exact body _

/-- A bus request is refused for its bus number, or is its body on the bus. -/
theorem State.withBus_keeps {P : State × Answer → Prop} {s : State} {kind bus : Nat} {f : Fin 4 → State × Answer}
    (refused : P (s.refuse kind .badField)) (body : ∀ b, P (f b)) : P (s.withBus kind bus f) := by
  unfold State.withBus
  split
  · exact refused
  · exact body _

/-! ### Commands of a bus -/

/-- The steps that a command of a bus other than a key event can make, each with the exchange or the timer it needs
(R92 to R139, R147). -/
inductive BusStep (b : Fin 4) (s : State) : State → Prop
  | sweep (due : s.sweepDue b = true) : BusStep b s (s.beginSweep b)
  | unanswered (i : Fin 62) (second : Bool) (open_ : (s.bus b).exchange = .visit i second) :
      BusStep b s (s.visitUnanswered { bus := b, idx := i } second)
  | identified (i : Fin 62) (id : Identity) (open_ : (s.bus b).exchange = .poll i) :
      BusStep b s (((s.goodAnswer b).classifyAt { bus := b, idx := i } id false).nextPoll b i)
  | unidentified (i : Fin 62) (open_ : (s.bus b).exchange = .poll i) : BusStep b s (s.nextPoll b i)
  | probeHere (i : Fin 62) (open_ : (s.bus b).exchange = .probeLook i) : BusStep b s (s.probeHere b i)
  | probeTaken (i : Fin 62) (second : Bool) (id : Identity) (open_ : (s.bus b).exchange = .probeTake i second) :
      BusStep b s (s.probeTaken b i id)
  | probeAgain (i : Fin 62) (open_ : (s.bus b).exchange = .probeTake i false) :
      BusStep b s (s.afterExchange b fun u => u.sendFrames b [.take (i.val + 1)] (.probeTake i true))
  | probeEnds (open_ : (∃ i, (s.bus b).exchange = .probeLook i) ∨ ∃ i, (s.bus b).exchange = .probeTake i true) :
      BusStep b s (s.afterProbe b)
  | tooLong (open_ : (s.bus b).exchange = .walkLook) :
      BusStep b s (((s.goodAnswer b).queueNotice (.bus b .chainTooLong none)).completeWalk b 62)
  | walkEnds (k : Nat) (open_ : (s.bus b).exchange = .walkLook ∨ ∃ i, (s.bus b).exchange = .walkTake i true) :
      BusStep b s (s.completeWalk b k)
  | walkTaken (i : Fin 62) (second : Bool) (id : Identity) (open_ : (s.bus b).exchange = .walkTake i second) :
      BusStep b s (s.walkTaken b i id)
  | walkAgain (i : Fin 62) (open_ : (s.bus b).exchange = .walkTake i false) : BusStep b s (s.walkTakeAt b i true)
  | enrHigh (running : (s.bus b).enrLowEnd.isSome = true) :
      BusStep b s ((s.modBus b fun c => { c with enrLowEnd := none }).walkTakeAt b 0 false)
  | waitEnds (running : (s.bus b).waitEnd.isSome = true) : BusStep b s (s.startRelease b)
  | resettingEnds (running : (s.bus b).resettingEnd.isSome = true) :
      BusStep b s ((s.modFeed b fun f => { f with switchClosed := true }).startRelease b)
  | sampleStarts (due : (s.feed b).next.isSome = true) :
      BusStep b s (s.modFeed b fun f => { f with busy := true, next := none, runStart := some s.now })
  | sampleCompletes (start : Instant) (supply : Nat) (running : (s.feed b).runStart = some start) :
      BusStep b s (s.completeSample b start (levelOf supply))
  | flips : BusStep b s (s.flipPhase b)

theorem isSome_of_any {α : Type} {o : Option α} {p : α → Bool} (h : o.any p = true) : o.isSome = true := by
  cases o with
  | none => cases h
  | some _ => rfl

/-- What a command of a bus other than KEYS_ANSWER leaves. -/
def StepsOrStays (b : Fin 4) (s : State) (o : Host.Outcome State Fault Refusal) : Prop :=
  ∃ t, o = .next t ∧ (t = s ∨ BusStep b s t)

section

variable (b : Fin 4) (frame : List PairByte) (s : State)

theorem execSweepStart_steps : StepsOrStays b s (execSweepStart b s) := by
  refine ⟨_, rfl, ?_⟩
  split
  next due => exact .inr (.sweep due)
  next => exact .inl rfl

theorem execKeysWindowExpiry_steps : StepsOrStays b s (execKeysWindowExpiry b s) := by
  refine ⟨_, rfl, ?_⟩
  split
  next i second open_ => exact .inr (.unanswered i second open_)
  next => exact .inl rfl

theorem execIdentifyReply_steps : StepsOrStays b s (execIdentifyReply b frame s) := by
  refine ⟨_, rfl, ?_⟩
  split
  next i open_ =>
    split
    next id _ => exact .inr (.identified i id open_)
    next => exact .inl rfl
  next => exact .inl rfl

theorem execIdentifyWindowExpiry_steps : StepsOrStays b s (execIdentifyWindowExpiry b s) := by
  refine ⟨_, rfl, ?_⟩
  split
  next i open_ => exact .inr (.unidentified i open_)
  next => exact .inl rfl

theorem execHereAnswer_steps : StepsOrStays b s (execHereAnswer b frame s) := by
  refine ⟨_, rfl, ?_⟩
  split
  next i open_ =>
    split
    next => exact .inr (.probeHere i open_)
    next => exact .inl rfl
  next open_ =>
    split
    next => exact .inr (.tooLong open_)
    next => exact .inl rfl
  next => exact .inl rfl

theorem execHereWindowExpiry_steps : StepsOrStays b s (execHereWindowExpiry b s) := by
  refine ⟨_, rfl, ?_⟩
  split
  next i open_ => exact .inr (.probeEnds (.inl ⟨i, open_⟩))
  next open_ => exact .inr (.walkEnds 62 (.inl open_))
  next => exact .inl rfl

theorem execEnrLowEnd_steps : StepsOrStays b s (execEnrLowEnd b s) := by
  refine ⟨_, rfl, ?_⟩
  split
  next due => exact .inr (.enrHigh (isSome_of_any due))
  next => exact .inl rfl

theorem execTakenAnswer_steps : StepsOrStays b s (execTakenAnswer b frame s) := by
  refine ⟨_, rfl, ?_⟩
  split
  next i second open_ =>
    split
    next id _ => exact .inr (.walkTaken i second id open_)
    next => exact .inl rfl
  next i second open_ =>
    split
    next id _ => exact .inr (.probeTaken i second id open_)
    next => exact .inl rfl
  next => exact .inl rfl

theorem execTakenWindowExpiry_steps : StepsOrStays b s (execTakenWindowExpiry b s) := by
  refine ⟨_, rfl, ?_⟩
  split
  next i second open_ =>
    cases second with
    | true => rw [if_pos rfl]; exact .inr (.walkEnds i.val (.inr ⟨i, open_⟩))
    | false => rw [if_neg Bool.false_ne_true]; exact .inr (.walkAgain i open_)
  next i second open_ =>
    cases second with
    | true => rw [if_pos rfl]; exact .inr (.probeEnds (.inr ⟨i, open_⟩))
    | false => rw [if_neg Bool.false_ne_true]; exact .inr (.probeAgain i open_)
  next => exact .inl rfl

theorem execEnrolWaitEnd_steps : StepsOrStays b s (execEnrolWaitEnd b s) := by
  refine ⟨_, rfl, ?_⟩
  split
  next due => exact .inr (.waitEnds (isSome_of_any due))
  next => exact .inl rfl

theorem execResettingEnd_steps : StepsOrStays b s (execResettingEnd b s) := by
  refine ⟨_, rfl, ?_⟩
  split
  next due => exact .inr (.resettingEnds (isSome_of_any due))
  next => exact .inl rfl

theorem execSampleStart_steps : StepsOrStays b s (execSampleStart b s) := by
  refine ⟨_, rfl, ?_⟩
  split
  next due => exact .inr (.sampleStarts (isSome_of_any (Bool.and_eq_true_iff.1 due).2))
  next => exact .inl rfl

theorem execSampleComplete_steps (supply : Nat) : StepsOrStays b s (execSampleComplete b supply s) := by
  refine ⟨_, rfl, ?_⟩
  split
  next start running =>
    split
    next => exact .inr (.sampleCompletes start supply running)
    next => exact .inl rfl
  next => exact .inl rfl

theorem execKeysAnswer_cases : ∃ t, execKeysAnswer b frame s = .next t ∧
    (t = s ∨ ∃ i second e, (s.bus b).exchange = .visit i second ∧ t = s.visitAnswered { bus := b, idx := i } e) := by
  refine ⟨_, rfl, ?_⟩
  split
  next i second open_ =>
    split
    next e _ => exact .inr ⟨i, second, e, open_, rfl⟩
    next => exact .inl rfl
  next => exact .inl rfl

end

/-- A command of a bus other than KEYS_ANSWER has no effect or makes a step of the list. -/
theorem exec_steps {c : Instr} {b : Fin 4} (of_bus : busOfCommand c = some b) (no_keys : ∀ frame, c ≠ .keysAnswer b frame)
    (s : State) : StepsOrStays b s (exec c s) := by
  cases c <;> cases of_bus
  case keysAnswer frame => exact absurd rfl (no_keys frame)
  case sweepStart => exact execSweepStart_steps b s
  case keysWindowExpiry => exact execKeysWindowExpiry_steps b s
  case identifyReply frame => exact execIdentifyReply_steps b frame s
  case identifyWindowExpiry => exact execIdentifyWindowExpiry_steps b s
  case hereAnswer frame => exact execHereAnswer_steps b frame s
  case hereWindowExpiry => exact execHereWindowExpiry_steps b s
  case enrLowEnd => exact execEnrLowEnd_steps b s
  case takenAnswer frame => exact execTakenAnswer_steps b frame s
  case takenWindowExpiry => exact execTakenWindowExpiry_steps b s
  case enrolWaitEnd => exact execEnrolWaitEnd_steps b s
  case resettingEnd => exact execResettingEnd_steps b s
  case sampleStart => exact execSampleStart_steps b s
  case sampleComplete supply => exact execSampleComplete_steps b s supply
  case phaseFlip => exact ⟨_, rfl, .inr .flips⟩

/-- A command of a bus has no effect, makes a step of the list, or brings a good KEYS answer to the visit in progress. -/
theorem exec_bus {c : Instr} {b : Fin 4} {s t : State} (of_bus : busOfCommand c = some b) (ran : exec c s = .next t) :
    t = s ∨ BusStep b s t ∨
    ∃ frame i second e, c = .keysAnswer b frame ∧ (s.bus b).exchange = .visit i second ∧
      t = s.visitAnswered { bus := b, idx := i } e := by
  by_cases keys : ∃ frame, c = .keysAnswer b frame
  · obtain ⟨frame, rfl⟩ := keys
    obtain ⟨u, hu, stays | ⟨i, second, e, open_, visited⟩⟩ := execKeysAnswer_cases b frame s
    all_goals
      obtain rfl : u = t := Host.Outcome.next.inj (hu.symm.trans ran)
    · exact .inl stays
    · exact .inr (.inr ⟨frame, i, second, e, rfl, open_, visited⟩)
  · obtain ⟨u, hu, moved⟩ := exec_steps of_bus (fun frame h => keys ⟨frame, h⟩) s
    obtain rfl : u = t := Host.Outcome.next.inj (hu.symm.trans ran)
    exact moved.imp_right .inl

/-! ### Every command -/

/-- The steps of the resets, the mode lines and the link port (R47, R162 to R166, R174). -/
inductive LineStep (s : State) : State → Prop
  | hold : LineStep s s.hold
  | release (held : s.held = true) : LineStep s s.released
  | lines (dark lamptest : Bool) : LineStep s { s with ms0 := dark, ms1 := lamptest }
  | fallInReset : LineStep s { s with lcs := false }
  | fall (working : s.held = false) : LineStep s ({ s with lcs := false } : State).beginTransaction
  | firstByte (kind : Byte) : LineStep s (s.firstByte kind)
  | riseAlone (none : s.link.outbound = none) : LineStep s { s with lcs := true }
  | rise (o : Outbound) (further : List Byte) (inProgress : s.link.outbound = some o) :
      LineStep s (({ s with lcs := true } : State).completeTransaction o further)

theorem execLcsFall_steps (s : State) : ∃ t, execLcsFall s = .next t ∧ (t = s ∨ LineStep s t) := by
  refine ⟨_, rfl, ?_⟩
  split
  next => exact .inl rfl
  next =>
    split
    next => exact .inr .fallInReset
    next working => exact .inr (.fall (Bool.eq_false_iff.2 working))

theorem execStatusByteComplete_steps (wave : List LinkPins) (s : State) :
    ∃ t, execStatusByteComplete wave s = .next t ∧ (t = s ∨ LineStep s t) := by
  refine ⟨_, rfl, ?_⟩
  split
  next => exact .inl rfl
  next kind _ _ =>
    split
    next => exact .inr (.firstByte kind)
    next => exact .inl rfl

theorem execLcsRise_steps (wave : List LinkPins) (s : State) :
    ∃ t, execLcsRise wave s = .next t ∧ (t = s ∨ LineStep s t) := by
  refine ⟨_, rfl, ?_⟩
  split
  next none => exact .inr (.riseAlone none)
  next o inProgress => exact .inr (.rise o _ inProgress)

theorem execResetRelease_steps (s : State) : ∃ t, execResetRelease s = .next t ∧ (t = s ∨ LineStep s t) := by
  refine ⟨_, rfl, ?_⟩
  split
  next held => exact .inr (.release held)
  next => exact .inl rfl

/-- A command that is neither a request nor of a bus has no effect or makes a step of the lines. -/
theorem exec_lines {c : Instr} (no_request : requestOwner c = none) (no_bus : busOfCommand c = none) (s : State) :
    ∃ t, exec c s = .next t ∧ (t = s ∨ LineStep s t) := by
  cases c <;> first | (simp [requestOwner] at no_request; done) | (simp [busOfCommand] at no_bus; done) | skip
  case powerOnReset => exact ⟨_, rfl, .inr .hold⟩
  case rstnReset => exact ⟨_, rfl, .inr .hold⟩
  case resetRelease => exact execResetRelease_steps s
  case darkLamptestChange dark lamptest => exact ⟨_, rfl, .inr (.lines dark lamptest)⟩
  case lcsFall => exact execLcsFall_steps s
  case statusByteComplete wave => exact execStatusByteComplete_steps wave s
  case lcsRise wave => exact execLcsRise_steps wave s

/-- What a command can do: nothing, a request, a step of the lines, a step of a bus or a key event. -/
theorem exec_cases {c : Instr} {s t : State} (ran : exec c s = .next t) :
    t = s ∨ ((requestOwner c).isSome = true ∧ t = s.runRequest c) ∨ LineStep s t ∨ (∃ b, BusStep b s t) ∨
    ∃ b i second e, (s.bus b).exchange = .visit i second ∧ t = s.visitAnswered { bus := b, idx := i } e := by
  cases owner : requestOwner c with
  | some f =>
    rw [exec_request (by rw [owner]; rfl)] at ran
    exact .inr (.inl ⟨rfl, (Host.Outcome.next.inj ran).symm⟩)
  | none =>
    cases bus : busOfCommand c with
    | some b =>
      obtain stays | moved | ⟨_, i, second, e, _, open_, visited⟩ := exec_bus bus ran
      · exact .inl stays
      · exact .inr (.inr (.inr (.inl ⟨b, moved⟩)))
      · exact .inr (.inr (.inr (.inr ⟨b, i, second, e, open_, visited⟩)))
    | none =>
      obtain ⟨u, hu, moved⟩ := exec_lines owner bus s
      obtain rfl : u = t := Host.Outcome.next.inj (hu.symm.trans ran)
      exact moved.imp_right fun line => .inr (.inl line)

/-- What a command keeps on every state, an idle millisecond and the queue of commands not disturbing it, every step keeps. -/
theorem step_keeps {P : State → Prop} (queue : ∀ (s : State) (cs : List Instr), P s → P { s with pending := cs })
    (time : ∀ (s : State) (n : Nat), P s → P { s with now := n })
    (command : ∀ c s t, exec c s = .next t → P s → P t) {s t : State} (ran : step s = .next t) (before : P s) : P t := by
  unfold step at ran
  cases waiting : s.pending with
  | nil =>
    rw [waiting] at ran
    injection ran with ran
    subst ran
    unfold State.tick
    split
    next => exact before
    next => exact time s _ before
  | cons c rest =>
    rw [waiting] at ran
    exact command c _ t ran (queue s rest before)

/-! ### Predicates that the link port does not disturb -/

section

variable {P : State → Prop} (link : ∀ (u : State) (l : Link), P u → P { u with link := l })
include link

theorem State.taken_keeps {s : State} {f : State → State × Answer} (h : P s) (owner : Takes s → P (f s).1) : P (s.request f) := by
  obtain stays | shown | ⟨takes, taken⟩ := s.request_cases f
  · exact stays.symm ▸ h
  · exact shown.symm ▸ link s _ h
  · exact taken.symm ▸ link _ _ (owner takes)

/-- What every request taken keeps, every request command keeps, and so does the request of a transaction (R166 step 2). -/
theorem State.runRequest_keeps {s : State} (h : P s) (owner : ∀ i f, requestOwner i = some f → Takes s → P (f s).1) (i : Instr) :
    P (s.runRequest i) := by
  cases owned : requestOwner i with
  | none => exact (State.runRequest_of_no_owner owned s).symm ▸ h
  | some f => exact (State.runRequest_of_owner owned s).symm ▸ State.taken_keeps link h (owner i f owned)

theorem State.decideRequest_keeps {s : State} (h : P s) (owner : ∀ i f, requestOwner i = some f → Takes s → P (f s).1)
    (bytes : List Byte) : P (s.decideRequest bytes) := by
  unfold State.decideRequest
  split
  · unfold State.runTaken
    split
    · split
      · exact State.taken_keeps link h fun _ => h
      · exact State.taken_keeps link h fun _ => h
      · exact State.runRequest_keeps link h owner _
    · exact h
  all_goals exact link s _ h

/-- The rise of LCS keeps what step 1 of R166 and every request taken keep. -/
theorem State.completeTransaction_keeps (settled : ∀ (u : State) (o : Outbound) (n : Nat), P u → P (u.settleOutbound o n))
    (owner : ∀ u i f, requestOwner i = some f → Takes u → P u → P (f u).1) {s : State} (h : P s) (o : Outbound) (further : List Byte) :
    P (s.completeTransaction o further) :=
  have before := settled s o (s.clockedBytes further).length h
  link _ _ (State.decideRequest_keeps link before (fun i f owned takes => owner _ i f owned takes before) _)

end

end Sys2Proof.Machine
end

section
/-! What an event of one bus can write: the records of that bus, its locations without their task lists, and notices that name no
closure. -/

namespace Sys2Proof.Machine

open Sys2Proof.Claims

/-- `t` comes from `s` by edits that an event of bus `b` may make (R106, R129, R141). -/
inductive Edits (b : Fin 4) (s : State) : State → Prop
  | refl : Edits b s s
  | setBus {t : State} (x : Bus) (h : Edits b s t) : Edits b s (t.setBus b x)
  | setFeed {t : State} (x : Feed) (h : Edits b s t) : Edits b s (t.setFeed b x)
  | setGovernor {t : State} (x : Governor) (h : Edits b s t) : Edits b s (t.setGovernor b x)
  | setLoc {t : State} (l : Loc) (x : Location) (of_bus : l.bus = b) (same_list : x.tasks = (t.loc l).tasks) (h : Edits b s t) :
      Edits b s (t.setLoc l x)
  | mapLocs {t : State} (f : Location → Location) (same_list : ∀ x, (f x).tasks = x.tasks) (h : Edits b s t) :
      Edits b s (t.mapBusLocs b f)
  | notice {t : State} (n : Notice) (h : Edits b s t) : Edits b s (t.queueNotice n)

namespace Edits

variable {b : Fin 4} {s t : State}

theorem trans {u : State} (h : Edits b s t) (k : Edits b t u) : Edits b s u := by
  induction k with
  | refl => exact h
  | setBus x _ ih => exact ih.setBus x
  | setFeed x _ ih => exact ih.setFeed x
  | setGovernor x _ ih => exact ih.setGovernor x
  | setLoc l x of_bus same_list _ ih => exact ih.setLoc l x of_bus same_list
  | mapLocs f same_list _ ih => exact ih.mapLocs f same_list
  | notice n _ ih => exact ih.notice n

theorem notices (h : Edits b s t) (ns : List Notice) : Edits b s (t.queueNotices ns) := by
  induction ns generalizing t with
  | nil => exact h
  | cons n ns ih => exact ih (h.notice n)

theorem goodAnswer (h : Edits b s t) : Edits b s (t.goodAnswer b) := by
  unfold State.goodAnswer
  simp only []
  split
  · exact (h.setBus _).notice _
  · exact h.setBus _

theorem sendFrames (h : Edits b s t) (frames : List AisleFrame) (x : Exchange) : Edits b s (t.sendFrames b frames x) := h.setBus _

theorem startRelease (h : Edits b s t) : Edits b s (t.startRelease b) := h.setBus _

theorem plan (h : Edits b s t) {l : Loc} (of_bus : l.bus = b) : Edits b s (t.plan l) := h.setLoc l _ of_bus rfl

theorem attempt (h : Edits b s t) {l : Loc} (of_bus : l.bus = b) (second : Bool) : Edits b s (t.attempt l second) := by
  subst of_bus
  exact ((h.plan rfl).sendFrames _ _).setBus _

theorem closeSweep (h : Edits b s t) : Edits b s (t.closeSweep b) := (h.setBus _).notices _

theorem governSweep (h : Edits b s t) : Edits b s (t.governSweep b) := by
  unfold State.governSweep
  simp only []
  split
  · exact (h.setGovernor _).notice _
  · split
    · exact (h.setGovernor _).notice _
    · exact h.setGovernor _

/-! ### Parts of a sweep -/

variable {close : State → State} (closes : ∀ {u}, Edits b s u → Edits b s (close u))
include closes

theorem pollPart (h : Edits b s t) (k : Nat) : Edits b s (t.pollPart b k close) := by
  obtain ⟨i, poll⟩ | ⟨i, probe⟩ | ends := t.pollPart_cases b k close
  · exact poll ▸ h.sendFrames _ _
  · exact probe ▸ h.sendFrames _ _
  · exact ends ▸ closes h

theorem visitPart (h : Edits b s t) (k : Nat) : Edits b s (t.visitPart b k close) := by
  obtain ⟨i, -, visit⟩ | ⟨i, poll⟩ | ⟨i, probe⟩ | ends := t.visitPart_cases b k close
  · exact visit ▸ h.attempt rfl false
  · exact poll ▸ h.sendFrames _ _
  · exact probe ▸ h.sendFrames _ _
  · exact ends ▸ closes h

theorem afterExchange (h : Edits b s t) : Edits b s (t.afterExchange b close) := by
  obtain ⟨-, walk⟩ | ⟨-, goes_on⟩ := t.afterExchange_cases b close
  · exact walk ▸ h.startRelease
  · exact goes_on ▸ closes h

omit closes

theorem beginSweep (h : Edits b s t) : Edits b s (t.beginSweep b) := by
  rw [State.beginSweep_eq]
  exact visitPart closeSweep (h.setBus _).governSweep 0

theorem endSweep (h : Edits b s t) : Edits b s (t.endSweep b) := by
  obtain ends | again := t.endSweep_cases b
  · exact ends ▸ h.closeSweep
  · exact again ▸ h.closeSweep.beginSweep

theorem nextVisit (h : Edits b s t) (i : Fin 62) : Edits b s (t.nextVisit b i) :=
  afterExchange (fun h => visitPart endSweep h _) h

theorem nextPoll (h : Edits b s t) (i : Fin 62) : Edits b s (t.nextPoll b i) :=
  afterExchange (fun h => pollPart endSweep h _) h

theorem afterProbe (h : Edits b s t) : Edits b s (t.afterProbe b) := afterExchange endSweep h

/-! ### Answers, walks and samples -/

theorem modLoc (h : Edits b s t) {l : Loc} (of_bus : l.bus = b) {f : Location → Location} (same_list : ∀ x, (f x).tasks = x.tasks) :
    Edits b s (t.modLoc l f) := h.setLoc l _ of_bus (same_list _)

theorem failVisit (h : Edits b s t) {l : Loc} (of_bus : l.bus = b) : Edits b s (t.failVisit l) := by
  unfold State.failVisit
  simp only []
  split
  · exact (h.modLoc of_bus (f := Location.failed) fun _ => rfl).notice _
  · exact h.modLoc of_bus (f := Location.failed) fun _ => rfl

theorem visitUnanswered (h : Edits b s t) (i : Fin 62) (second : Bool) :
    Edits b s (t.visitUnanswered { bus := b, idx := i } second) := by
  unfold State.visitUnanswered
  split
  · exact (h.failVisit rfl).nextVisit i
  · split
    · exact h.startRelease
    · exact h.attempt rfl true

theorem classifyAt (h : Edits b s t) {l : Loc} (of_bus : l.bus = b) (id : Identity) (taken : Bool) :
    Edits b s (t.classifyAt l id taken) := by
  unfold State.classifyAt
  simp only []
  split
  · exact (h.setLoc l ((t.loc l).classify id taken) of_bus rfl).notice _
  · exact h.setLoc l ((t.loc l).classify id taken) of_bus rfl

theorem markAbsent (h : Edits b s t) {l : Loc} (of_bus : l.bus = b) : Edits b s (t.markAbsent l) := by
  unfold State.markAbsent
  simp only []
  split
  · exact h
  · refine .notice _ (.setLoc l _ of_bus ?_ h)
    rfl

theorem marksAbsent (h : Edits b s t) {ls : List Loc} (of_bus : ∀ l ∈ ls, l.bus = b) :
    Edits b s (ls.foldl State.markAbsent t) := by
  induction ls generalizing t with
  | nil => exact h
  | cons l ls ih =>
    exact ih (h.markAbsent (of_bus l List.mem_cons_self)) fun m hm => of_bus m (List.mem_cons_of_mem l hm)

theorem bus_of_mem_locsFrom {k : Nat} {l : Loc} (h : l ∈ locsFrom b k) : l.bus = b := by
  obtain ⟨i, -, rfl⟩ := List.mem_map.1 h
  rfl

theorem enterService (h : Edits b s t) : Edits b s (t.enterService b) := by
  unfold State.enterService
  exact beginSweep (h.setBus _)

theorem completeWalk (h : Edits b s t) (k : Nat) : Edits b s (t.completeWalk b k) := by
  unfold State.completeWalk
  exact ((h.marksAbsent fun _ => bus_of_mem_locsFrom).notice _).enterService

theorem walkTaken (h : Edits b s t) (i : Fin 62) (id : Identity) : Edits b s (t.walkTaken b i id) := by
  unfold State.walkTaken
  simp only []
  split
  · exact (h.goodAnswer.classifyAt rfl id true).sendFrames _ _
  · exact (h.goodAnswer.classifyAt rfl id true).sendFrames _ _

theorem recordSample (h : Edits b s t) (level : Nat) : Edits b s (t.recordSample b level) := by
  unfold State.recordSample
  simp only []
  split
  · exact (h.setFeed _).notice _
  · exact h.setFeed _

theorem declareBrownout (h : Edits b s t) : Edits b s (t.declareBrownout b) := by
  have same_list (x : Location) : x.afterBrownout.tasks = x.tasks := by unfold Location.afterBrownout; split <;> rfl
  exact ((((h.setFeed _).setBus _).setGovernor _).mapLocs _ same_list).notice _

theorem recover (h : Edits b s t) (level : Nat) : Edits b s (t.recover b level) := by
  unfold State.recover
  simp only []
  split
  · exact ((h.setFeed _).notice _).setBus _
  · exact (h.setFeed _).setBus _

theorem supplyCheck (h : Edits b s t) (level : Nat) : Edits b s (t.supplyCheck b level) := by
  unfold State.supplyCheck
  repeat' split
  · exact h.declareBrownout
  · exact h
  · exact h.recover level
  · exact h
  · exact h

theorem flipPhase (h : Edits b s t) : Edits b s (t.flipPhase b) := by
  unfold State.flipPhase
  repeat' split
  · exact h
  · exact (h.setBus _).setGovernor _
  · exact h

end Edits

/-- Every step of a bus is made of such edits. -/
theorem BusStep.edits {b : Fin 4} {s t : State} (step : BusStep b s t) : Edits b s t := by
  have start : Edits b s s := .refl
  cases step with
  | sweep due => exact start.beginSweep
  | unanswered i second open_ => exact start.visitUnanswered i second
  | identified i id open_ => exact (start.goodAnswer.classifyAt rfl id false).nextPoll i
  | unidentified i open_ => exact start.nextPoll i
  | probeHere i open_ =>
    exact .afterExchange (fun h => h.sendFrames _ _) (start.goodAnswer.modLoc rfl fun _ => rfl)
  | probeTaken i second id open_ => exact (start.goodAnswer.classifyAt rfl id true).afterProbe
  | probeAgain i open_ => exact .afterExchange (fun h => h.sendFrames _ _) start
  | probeEnds open_ => exact start.afterProbe
  | tooLong open_ => exact (start.goodAnswer.notice _).completeWalk 62
  | walkEnds k open_ => exact start.completeWalk k
  | walkTaken i second id open_ => exact start.walkTaken i id
  | walkAgain i open_ => exact start.sendFrames _ _
  | enrHigh running => exact (start.setBus _).sendFrames _ _
  | waitEnds running => exact start.startRelease
  | resettingEnds running => exact (start.setFeed _).startRelease
  | sampleStarts due => exact start.setFeed _
  | sampleCompletes start' supply running => exact ((start.recordSample _).supplyCheck _).setFeed _
  | flips => exact start.flipPhase

end Sys2Proof.Machine
end

section
/-! What a key event can do to the sessions and tasks (chapter 4), said once. -/

namespace Sys2Proof.Machine

open Sys2Proof.Claims

/-- The ends of a key event's resolution at a location: nothing, a PRESS notice, or one of the steps on an OPEN task there
(R67 to R78). -/
inductive PressStep (l : Loc) (s : State) : State → Prop
  | silent : PressStep l s s
  | told (n : Notice) : PressStep l s (s.queueNotice n)
  | held (t : Task) (press : Instant) (stored : s.findTask t.id = some t) (isOpen : t.openAt l t.slot = true)
      (suspended : (s.session t.slot).state = .suspended) (room : (s.session t.slot).pending.length < 4) :
      PressStep l s ((s.setSession t.slot { s.session t.slot with
        pending := (s.session t.slot).pending ++ [{ task := t.id, offered := t.offered, press := press }] }).queueNotice
          (.session t.slot t.id))
  | confirmed (t : Task) (stored : s.findTask t.id = some t) (isOpen : t.openAt l t.slot = true)
      (active : (s.session t.slot).state ≠ .suspended) : PressStep l s (s.applyConfirm t t.offered)
  | minus (t : Task) (stored : s.findTask t.id = some t) (isOpen : t.openAt l t.slot = true) : PressStep l s (s.applyMinus l t)
  | plus (t : Task) (stored : s.findTask t.id = some t) (isOpen : t.openAt l t.slot = true) : PressStep l s (s.applyPlus l t)

theorem Task.openAt_iff {t : Task} {l : Loc} {slot : Fin 8} : t.openAt l slot = true ↔ t.state = .opened ∧ t.loc = l ∧ t.slot = slot := by
  simp [Task.openAt, and_assoc]

namespace State

variable (s : State) (l : Loc)

theorem holdConfirm_steps {t : Task} (press : Instant) (stored : s.findTask t.id = some t) (isOpen : t.openAt l t.slot = true)
    (suspended : (s.session t.slot).state = .suspended) : PressStep l s (s.holdConfirm l t press) := by
  unfold State.holdConfirm
  simp only []
  split
  next room => exact .held t press stored isOpen suspended room
  next => exact .told _

theorem pressOpen_steps (key : Key) (press : Instant) {t : Task} (stored : s.findTask t.id = some t)
    (isOpen : t.openAt l t.slot = true) : PressStep l s (s.pressOpen l key press t) := by
  unfold State.pressOpen
  split
  · exact .told _
  · split
    next suspended =>
      cases key with
      | confirm => exact s.holdConfirm_steps l press stored isOpen suspended
      | minus => exact .silent
      | plus => exact .silent
    next active =>
      cases key with
      | confirm => exact .confirmed t stored isOpen active
      | minus =>
        simp only []
        split
        · exact .silent
        · exact .minus t stored isOpen
      | plus =>
        simp only []
        split
        · exact .silent
        · exact .plus t stored isOpen

theorem pressTarget_steps (key : Key) (press : Instant) (x : Shown) : PressStep l s (s.pressTarget l key press x) := by
  unfold State.pressTarget
  split
  next t stored =>
    split
    next isOpen =>
      obtain ⟨-, same_id⟩ := findTask_mem stored
      obtain ⟨state, place, slot⟩ := Task.openAt_iff.1 isOpen
      exact s.pressOpen_steps l key press (by rw [same_id, stored]) (Task.openAt_iff.2 ⟨state, place, rfl⟩)
    next =>
      split
      · exact .silent
      · exact .told _
  next => exact .told _

theorem resolvePress_steps (e : KeyEvent) : PressStep l s (s.resolvePress l e) := by
  unfold State.resolvePress
  split
  · exact .silent
  next key _ =>
    split
    · exact .silent
    · split
      · exact .told _
      · split
        · exact .told _
        next token _ =>
          split
          · exact .told _
          · split
            · exact .told _
            next entry _ =>
              split
              · exact .told _
              · unfold State.pressEntry
                split
                · exact .told _
                · exact .silent
                · exact .silent
                · exact .told _
                · exact s.pressTarget_steps l key _ _

end State

/-- A good KEYS answer: edits of the bus, at most one resolution at the visited location between them, and edits of the bus
(R116, R118, R123). -/
theorem visitAnswered_steps (s : State) (b : Fin 4) (i : Fin 62) (e : Option KeyEvent) :
    ∃ u v, Edits b s u ∧ PressStep { bus := b, idx := i } u v ∧ Edits b v (s.visitAnswered { bus := b, idx := i } e) := by
  have counted : Edits b s ((s.goodAnswer b).modLoc { bus := b, idx := i } Location.answered) :=
    Edits.refl.goodAnswer.modLoc (l := { bus := b, idx := i }) rfl (f := Location.answered) fun _ => rfl
  have goes_on (v : State) : Edits b v (v.nextVisit b i) := Edits.refl.nextVisit i
  cases e with
  | none => exact ⟨_, _, counted, .silent, goes_on _⟩
  | some e =>
    unfold State.visitAnswered State.takeKeys State.takeEvent
    simp only []
    split
    · exact ⟨_, _, counted, .silent, goes_on _⟩
    · exact ⟨_, _, counted.modLoc rfl (f := fun x => { x with ack := e.bit }) fun _ => rfl, State.resolvePress_steps _ _ e, goes_on _⟩

end Sys2Proof.Machine
end

section
/-! The report queue under the steps (R149 to R157): order, capacity, and the entry in transmission. Settles O54. -/

namespace Sys2Proof.Machine

open Sys2Proof.Claims

/-! ### A queue in order -/

namespace NoticeQueue

variable {q : NoticeQueue}

/-- Queue order depends on the entries, their ages and the two tables alone. -/
theorem InOrder.of_same {p : NoticeQueue} (h : q.InOrder) (entries : p.entries = q.entries) (nextAge : p.nextAge = q.nextAge)
    (classes : p.classes = q.classes) (mask : p.mask = q.mask) : p.InOrder where
  room := entries ▸ h.room
  order := entries ▸ h.order
  ages := entries ▸ h.ages
  young := by rw [entries, nextAge]; exact h.young
  priorities := entries ▸ h.priorities
  classes := classes ▸ h.classes
  mask := mask ▸ h.mask

/-- Taking entries out keeps the order. -/
theorem InOrder.filter (h : q.InOrder) (keep : Entry → Bool) (lost : Bool) (transmitting : Option Nat) :
    InOrder { q with entries := q.entries.filter keep, lost := lost, transmitting := transmitting } where
  room := (List.length_filter_le keep _).trans h.room
  order := h.order.filter keep
  ages := h.ages.sublist (List.filter_sublist.map _)
  young := fun e he => h.young e (List.mem_of_mem_filter he)
  priorities := fun e he => h.priorities e (List.mem_of_mem_filter he)
  classes := h.classes
  mask := h.mask

/-- An entry put at its place is behind all of its own or a higher priority and ahead of all of a lower one (R152). -/
theorem pairwise_insertEntry {e : Entry} {es : List Entry} (order : es.Pairwise Entry.before) (young : ∀ x ∈ es, x.age < e.age) :
    (insertEntry e es).Pairwise Entry.before := by
  induction es with
  | nil => exact List.pairwise_singleton _ _
  | cons x xs ih =>
    obtain ⟨ahead, rest⟩ := List.pairwise_cons.1 order
    by_cases behind : e.priority ≤ x.priority
    · have step : insertEntry e (x :: xs) = x :: insertEntry e xs := by simp [insertEntry, behind]
      rw [step, List.pairwise_cons]
      refine ⟨fun y hy => ?_, ih rest fun y hy => young y (List.mem_cons_of_mem x hy)⟩
      obtain rfl | queued := (mem_insertEntry e y xs).1 hy
      · have := young x List.mem_cons_self
        unfold Entry.before
        omega
      · exact ahead y queued
    · have step : insertEntry e (x :: xs) = e :: x :: xs := by simp [insertEntry, behind]
      rw [step, List.pairwise_cons]
      refine ⟨fun y hy => ?_, order⟩
      obtain rfl | queued := List.mem_cons.1 hy
      · exact .inl (Nat.lt_of_not_le behind)
      · have := ahead y queued
        unfold Entry.before at this ⊢
        omega

theorem InOrder.join (h : q.InOrder) {e : Entry} (room : q.entries.length < 32) (age : e.age = q.nextAge)
    (priority : 1 ≤ e.priority ∧ e.priority ≤ 3) : (q.join e).InOrder where
  room := by
    rw [NoticeQueue.join, length_insertEntry]
    exact room
  order := pairwise_insertEntry h.order fun x hx => age ▸ h.young x hx
  ages := by
    have joined : ((insertEntry e q.entries).map Entry.age).Perm (e.age :: q.entries.map Entry.age) := by
      rw [← List.map_cons (f := Entry.age)]
      refine List.Perm.map _ ((List.perm_middle).trans ?_)
      rw [List.takeWhile_append_dropWhile]
    refine joined.nodup_iff.2 (List.nodup_cons.2 ⟨fun seen => ?_, h.ages⟩)
    obtain ⟨x, hx, same⟩ := List.mem_map.1 seen
    have := h.young x hx
    omega
  young := fun x hx => by
    obtain rfl | queued := (mem_insertEntry e x q.entries).1 hx
    · exact age ▸ Nat.lt_succ_self _
    · exact Nat.lt_succ_of_lt (h.young x queued)
  priorities := fun x hx => by
    obtain rfl | queued := (mem_insertEntry e x q.entries).1 hx
    · exact priority
    · exact h.priorities x queued
  classes := h.classes
  mask := h.mask

theorem InOrder.offer (h : q.InOrder) {e : Entry} (age : e.age = q.nextAge) (priority : 1 ≤ e.priority ∧ e.priority ≤ 3) :
    (q.offer e).1.InOrder := by
  obtain ⟨room, joins⟩ | ⟨v, full, victim, -, displaces⟩ | ⟨-, -, dropped⟩ := q.offer_cases e
  · rw [joins]
    exact h.join room age priority
  · rw [displaces]
    refine InOrder.join (h.filter (fun x => x.age != v.age) true q.transmitting) ?_ age priority
    have shorter : (q.entries.filter fun x => x.age != v.age).length < q.entries.length :=
      List.length_filter_lt_length_iff_exists.2 ⟨v, (victim_mem victim).1, by simp⟩
    exact shorter.trans_le h.room
  · rw [dropped]
    exact h.of_same rfl rfl rfl rfl

/-- An offer drops no entry in transmission (R155, R157). -/
theorem offer_keeps_transmitting {e x : Entry} (queued : x ∈ q.entries) (sending : q.transmitting = some x.age) :
    x ∈ (q.offer e).1.entries := by
  obtain ⟨-, joins⟩ | ⟨v, -, victim, -, displaces⟩ | ⟨-, -, dropped⟩ := q.offer_cases e
  · rw [joins]
    exact (mem_insertEntry _ _ _).2 (.inr queued)
  · rw [displaces]
    refine (mem_insertEntry _ _ _).2 (.inr (List.mem_filter.2 ⟨queued, ?_⟩))
    have other : x.age ≠ v.age := fun same => (victim_mem victim).2 (same ▸ sending)
    simpa using other
  · rw [dropped]
    exact queued

theorem mem_offer {e x : Entry} (h : x ∈ (q.offer e).1.entries) : x = e ∨ x ∈ q.entries := by
  obtain ⟨-, joins⟩ | ⟨v, -, victim, -, displaces⟩ | ⟨-, -, dropped⟩ := q.offer_cases e
  · rw [joins] at h
    exact (mem_insertEntry _ _ _).1 h
  · rw [displaces] at h
    exact ((mem_insertEntry _ _ _).1 h).imp_right List.mem_of_mem_filter
  · rw [dropped] at h
    exact .inr h

end NoticeQueue

/-! ### What notices alone do to the queue -/

/-- The report queue of `t` comes from that of `s` by notices offered to it, and the link port is as it was; an entry that names a
closure names one that `t` has counted. -/
structure State.Queued (s t : State) : Prop where
  outbound : t.link.outbound = s.link.outbound
  replies : t.link.replies = s.link.replies
  transmitting : t.notices.transmitting = s.notices.transmitting
  ordered : s.notices.InOrder → t.notices.InOrder
  kept : ∀ e ∈ s.notices.entries, s.notices.transmitting = some e.age → e ∈ t.notices.entries
  closures : s.closures ≤ t.closures
  named : ∀ e ∈ t.notices.entries, e ∈ s.notices.entries ∨ ∀ n, e.closure = some n → n < t.closures

namespace State.Queued

variable {s t u : State}

theorem of_same (link : t.link = s.link) (notices : t.notices = s.notices) (closures : s.closures ≤ t.closures) : s.Queued t where
  outbound := by rw [link]
  replies := by rw [link]
  transmitting := by rw [notices]
  ordered := by rw [notices]; exact id
  kept := by rw [notices]; exact fun _ h _ => h
  closures := closures
  named := by rw [notices]; exact fun _ h => .inl h

theorem trans (h : s.Queued t) (k : t.Queued u) : s.Queued u where
  outbound := k.outbound.trans h.outbound
  replies := k.replies.trans h.replies
  transmitting := k.transmitting.trans h.transmitting
  ordered := k.ordered ∘ h.ordered
  kept := fun e he sending => k.kept e (h.kept e he sending) (h.transmitting ▸ sending)
  closures := h.closures.trans k.closures
  named := fun e he => by
    obtain before | new := k.named e he
    · exact (h.named e before).imp_right fun named n hn => (named n hn).trans_le k.closures
    · exact .inr new

/-- An update that leaves link port, report queue and closures changes nothing here. -/
theorem same (h : s.Queued t) (link : u.link = t.link) (notices : u.notices = t.notices) (closures : t.closures ≤ u.closures) :
    s.Queued u := h.trans (of_same link notices closures)

theorem notice (h : s.Queued t) (n : Notice) (c : Option Nat) (counted : ∀ k, c = some k → k < t.closures) :
    s.Queued (t.queueNotice n c) := by
  refine h.trans ?_
  by_cases none : t.notices.classes.get n.cls = 0
  · rw [State.queueNotice_priority_zero _ _ none]
    exact of_same rfl rfl le_rfl
  · have offered : (t.queueNotice n c).notices = (t.notices.offer
        { notice := n, priority := t.notices.classes.get n.cls, stamp := t.now % 65536, age := t.notices.nextAge, closure := c }).1 := by
      rw [State.queueNotice_eq, if_neg none]
    refine ⟨by simp, by simp, by simp, fun ordered => ?_, fun e he sending => ?_, by simp, fun e he => ?_⟩
    · rw [offered]
      exact ordered.offer rfl ⟨Nat.one_le_iff_ne_zero.2 none, ordered.classes _⟩
    · rw [offered]
      exact NoticeQueue.offer_keeps_transmitting he sending
    · rw [offered] at he
      obtain rfl | queued := NoticeQueue.mem_offer he
      · exact .inr (by simpa using counted)
      · exact .inl queued

theorem of_edits {b : Fin 4} (h : Edits b s t) : s.Queued t := by
  induction h with
  | refl => exact of_same rfl rfl le_rfl
  | setBus x _ ih => exact ih.same rfl rfl le_rfl
  | setFeed x _ ih => exact ih.same rfl rfl le_rfl
  | setGovernor x _ ih => exact ih.same rfl rfl le_rfl
  | setLoc l x _ _ _ ih => exact ih.same rfl rfl le_rfl
  | mapLocs f _ _ ih => exact ih.same rfl rfl le_rfl
  | notice n _ ih => exact ih.notice n none (by simp)

theorem refl (s : State) : s.Queued s := of_same rfl rfl le_rfl

theorem updTask (h : s.Queued t) (id : Nat) (f : Task → Task) : s.Queued (t.updTask id f) := h.same rfl rfl le_rfl

theorem setSession (h : s.Queued t) (i : Fin 8) (x : Session) : s.Queued (t.setSession i x) := h.same rfl rfl le_rfl

theorem modLoc (h : s.Queued t) (l : Loc) (f : Location → Location) : s.Queued (t.modLoc l f) := h.same rfl rfl le_rfl

theorem endHold (h : s.Queued t) (l : Loc) (id : Nat) : s.Queued (t.endHold l id) := h.same rfl rfl le_rfl

theorem release (h : s.Queued t) (succ : Option Nat) : s.Queued (t.release succ) := h.same (by simp) (by simp) (by simp)

theorem startLinger (h : s.Queued t) (l : Loc) (id : Nat) (slot : Fin 8) : s.Queued (t.startLinger l id slot) :=
  h.same (by simp) (by simp) (by simp)

theorem count (h : s.Queued t) : s.Queued { t with closures := t.closures + 1 } := h.same rfl rfl (Nat.le_succ _)

theorem closeTask (s : State) (t : Task) (o : TaskOutcome) (picked : Nat) : s.Queued (s.closeTask t o picked) :=
  ((((((refl s).updTask _ _).count.modLoc _ _).release t.succ).notice _ (some s.closures) (by simp)).startLinger _ _ _)

theorem keepPartial (s : State) (t : Task) (offered : Nat) : s.Queued (s.keepPartial t offered) :=
  (((refl s).updTask _ _).notice _ none (by simp)).endHold _ _

theorem applyConfirm (s : State) (t : Task) (offered : Nat) : s.Queued (s.applyConfirm t offered) := by
  obtain ⟨-, done⟩ | ⟨-, -, zero⟩ | ⟨-, -, -, short⟩ | ⟨-, -, -, keep⟩ := s.applyConfirm_cases t offered
  · exact done ▸ closeTask s t _ _
  · exact zero ▸ closeTask s t _ _
  · exact short ▸ closeTask s t _ _
  · exact keep ▸ keepPartial s t _

theorem of_press {l : Loc} (h : PressStep l s t) : s.Queued t := by
  have start := refl s
  cases h with
  | silent => exact start
  | told n => exact start.notice n none (by simp)
  | held t press _ _ _ _ => exact (start.setSession _ _).notice _ none (by simp)
  | confirmed t _ _ _ => exact applyConfirm s t _
  | minus t _ _ => exact start.same rfl rfl le_rfl
  | plus t _ _ => exact start.same rfl rfl le_rfl

theorem visitAnswered (s : State) (b : Fin 4) (i : Fin 62) (e : Option KeyEvent) :
    s.Queued (s.visitAnswered { bus := b, idx := i } e) := by
  obtain ⟨u, v, before, press, after⟩ := visitAnswered_steps s b i e
  exact ((of_edits before).trans (of_press press)).trans (of_edits after)

/-! ### The requests that queue notices -/

theorem notices (h : s.Queued t) (ns : List Notice) : s.Queued (t.queueNotices ns) := by
  induction ns generalizing t with
  | nil => exact h
  | cons n ns ih => exact ih (h.notice n none (by simp))

theorem amendTask (s : State) (id requested : Nat) : s.Queued (s.amendTask id requested).1 := by
  have start := refl s
  unfold State.amendTask
  split
  · exact start
  · split
    · exact start
    · split
      · exact start
      · exact (((start.updTask _ _).endHold _ _).setSession _ _).notices _

theorem applyEntry (s : State) (i : Fin 8) (e : PendingEntry) : s.Queued (s.applyEntry i e).1 := by
  have start := refl s
  unfold State.applyEntry
  repeat' split
  · exact start
  · exact start.notice _ none (by simp)
  · exact start.notice _ none (by simp)
  · exact applyConfirm s _ _

theorem applyEntries (s : State) (i : Fin 8) (es : List PendingEntry) : s.Queued (s.applyEntries i es).1 := by
  induction es generalizing s with
  | nil => exact of_same rfl rfl le_rfl
  | cons e es ih => exact (applyEntry s i e).trans (ih _)

theorem resumeSession (s : State) (slot : Nat) : s.Queued (s.resumeSession slot).1 := by
  refine State.withSlot_keeps (P := fun r => s.Queued r.1) (refl s) fun i => ?_
  simp only []
  split
  · exact refl s
  · exact refl s
  · exact (applyEntries s i _).setSession _ _

end State.Queued

end Sys2Proof.Machine
end

section
/-! The link port and the report queue under every command: the agreement of O54 (R149 to R157, R164 to R167). -/

namespace Sys2Proof.Machine

open Sys2Proof.Claims

/-- What a command keeps of the link port and the report queue. `idle` says that it begins no transmission by itself. -/
structure State.KeepsQueues (s t : State) : Prop where
  replies : s.link.replies.length ≤ 4 → t.link.replies.length ≤ 4
  ordered : s.notices.InOrder → t.notices.InOrder
  idle : s.notices.transmitting = none → t.notices.transmitting = none
  outbound : s.OutboundInPlace → t.OutboundInPlace

section

variable {s : State}

theorem State.outboundInPlace_answer {a : Answer} (h : s.link.outbound = some (.answer a)) :
    s.OutboundInPlace ↔ s.link.replies.head? = some a ∧ s.notices.transmitting = none := by
  unfold State.OutboundInPlace
  rw [h]

theorem State.outboundInPlace_notice {e : Entry} (h : s.link.outbound = some (.notice e)) :
    s.OutboundInPlace ↔ e ∈ s.notices.entries ∧ s.notices.transmitting = some e.age := by
  unfold State.OutboundInPlace
  rw [h]

theorem State.outboundInPlace_empty (h : s.link.outbound = some .empty) :
    s.OutboundInPlace ↔ s.notices.transmitting = none := by
  unfold State.OutboundInPlace
  rw [h]

theorem State.outboundInPlace_none (h : s.link.outbound = none) : s.OutboundInPlace ↔ s.notices.transmitting = none := by
  unfold State.OutboundInPlace
  rw [h]

end

/-- The outbound record stays in place where the first answer stays, and the entry in transmission. -/
theorem State.OutboundInPlace.mono {s t : State} (inPlace : s.OutboundInPlace) (outbound : t.link.outbound = s.link.outbound)
    (transmitting : t.notices.transmitting = s.notices.transmitting)
    (head : ∀ a, s.link.replies.head? = some a → t.link.replies.head? = some a)
    (kept : ∀ e ∈ s.notices.entries, s.notices.transmitting = some e.age → e ∈ t.notices.entries) : t.OutboundInPlace := by
  cases chosen : s.link.outbound with
  | none =>
    rw [State.outboundInPlace_none chosen] at inPlace
    rwa [State.outboundInPlace_none (outbound.trans chosen), transmitting]
  | some o =>
    cases o with
    | empty =>
      rw [State.outboundInPlace_empty chosen] at inPlace
      rwa [State.outboundInPlace_empty (outbound.trans chosen), transmitting]
    | answer a =>
      obtain ⟨first, idle⟩ := (State.outboundInPlace_answer chosen).1 inPlace
      rw [State.outboundInPlace_answer (outbound.trans chosen), transmitting]
      exact ⟨head a first, idle⟩
    | notice e =>
      obtain ⟨queued, sending⟩ := (State.outboundInPlace_notice chosen).1 inPlace
      rw [State.outboundInPlace_notice (outbound.trans chosen), transmitting]
      exact ⟨kept e queued sending, sending⟩

namespace State.KeepsQueues

variable {s t : State}

theorem of_queued (h : s.Queued t) : s.KeepsQueues t where
  replies := by rw [h.replies]; exact id
  ordered := h.ordered
  idle := by rw [h.transmitting]; exact id
  outbound := fun before => before.mono h.outbound h.transmitting (by rw [h.replies]; exact fun _ => id) h.kept

theorem refl (s : State) : s.KeepsQueues s := of_queued (.refl s)

/-- An answer joins behind the outbound one, so the outbound record stays in place. -/
theorem answered (h : s.KeepsQueues t) (room : t.link.replies.length < 4) (a : Answer) : s.KeepsQueues (answered t a) where
  replies := fun _ => by simpa [Claims.answered] using room
  ordered := h.ordered
  idle := h.idle
  outbound := fun before => (h.outbound before).mono rfl rfl
    (fun b first => by rw [Claims.answered, List.head?_append, first]; rfl) fun _ queued _ => queued

theorem request {f : State → State × Answer} (owner : s.KeepsQueues (f s).1)
    (fewer : (f s).1.link.replies.length ≤ s.link.replies.length) : s.KeepsQueues (s.request f) := by
  obtain stays | shown | ⟨takes, taken⟩ := s.request_cases f
  · rw [stays]
    exact refl s
  · rw [shown]
    exact ⟨id, id, id, id⟩
  · rw [taken]
    exact owner.answered (fewer.trans_lt takes.2) _

theorem request_queued {f : State → State × Answer} (owner : s.Queued (f s).1) : s.KeepsQueues (s.request f) :=
  request (of_queued owner) (by rw [owner.replies])

/-- A request that is none of RESET_PART, SET_CLASS and SET_MASK at most queues notices. -/
theorem owner_queued {i : Instr} {f : State → State × Answer} (owned : requestOwner i = some f) (no_reset : i ≠ .resetPart)
    (no_class : ∀ c p, i ≠ .setClass c p) (no_mask : ∀ l, i ≠ .setMask l) (s : State) : s.Queued (f s).1 := by
  cases i <;> cases owned
  case resetPart => exact absurd rfl no_reset
  case setClass c p => exact absurd rfl (no_class c p)
  case setMask l => exact absurd rfl (no_mask l)
  case amendTask id requested => exact .amendTask s id requested
  case resume slot => exact .resumeSession s slot
  all_goals exact .of_same (by simp) (by simp) (by simp)

theorem clamp_le (lo hi n : Nat) (h : lo ≤ hi) : clamp lo hi n ≤ hi := max_le h (min_le_left _ _)

theorem get_set_le {t : ClassTable} (le : ∀ c, t.get c ≤ 3) (c : NoticeClass) {p : Nat} (hp : p ≤ 3) (d : NoticeClass) :
    (t.set c p).get d ≤ 3 := by
  have := le d
  cases c <;> cases d <;> first | exact hp | exact this

theorem setClass (s : State) (c p : Nat) : s.KeepsQueues (s.setClass c p).1 := by
  unfold State.setClass
  split
  · exact refl s
  next c _ =>
    exact ⟨id, fun h => ⟨h.room, h.order, h.ages, h.young, h.priorities,
      fun d => get_set_le h.classes c (clamp_le 0 3 p (by decide)) d, h.mask⟩, id, id⟩

theorem setMask (s : State) (level : Nat) : s.KeepsQueues (s.setMask level).1 :=
  ⟨id, fun h => ⟨h.room, h.order, h.ages, h.young, h.priorities, h.classes, clamp_le 0 3 level (by decide)⟩, id, id⟩

theorem get_initial_le (c : NoticeClass) : ClassTable.initial.get c ≤ 3 := by cases c <;> decide

/-- The queue of R149, R154 and R158 without entries is in order. -/
theorem initial_inOrder (nextAge : Nat) : NoticeQueue.InOrder { NoticeQueue.initial with nextAge := nextAge } where
  room := Nat.zero_le _
  order := .nil
  ages := .nil
  young := by simp [NoticeQueue.initial]
  priorities := by simp [NoticeQueue.initial]
  classes := get_initial_le
  mask := Nat.zero_le 3

/-- A state with no answer, no entry and no outbound record keeps the agreement, whatever stood before. -/
theorem of_initial {link : Link} {nextAge : Nat} (hlink : t.link = link) (replies : link.replies = []) (outbound : link.outbound = none)
    (notices : t.notices = { NoticeQueue.initial with nextAge := nextAge }) : s.KeepsQueues t where
  replies := fun _ => by rw [hlink, replies]; exact Nat.zero_le 4
  ordered := fun _ => by rw [notices]; exact initial_inOrder nextAge
  idle := fun _ => by rw [notices]; rfl
  outbound := fun _ => (outboundInPlace_none (by rw [hlink, outbound])).2 (by rw [notices]; rfl)

theorem runRequest (s : State) (i : Instr) : s.KeepsQueues (s.runRequest i) := by
  cases owned : requestOwner i with
  | none => rw [runRequest_of_no_owner owned]; exact refl s
  | some f =>
    rw [runRequest_of_owner owned]
    by_cases reset : i = .resetPart
    · subst reset
      cases owned
      exact request (of_initial rfl rfl rfl rfl) (Nat.zero_le _)
    by_cases class_ : ∃ c p, i = .setClass c p
    · obtain ⟨c, p, rfl⟩ := class_
      cases owned
      exact request (setClass s c p) (by simp)
    by_cases mask : ∃ l, i = .setMask l
    · obtain ⟨l, rfl⟩ := mask
      cases owned
      exact request (setMask s l) le_rfl
    exact request_queued (owner_queued owned reset (fun c p h => class_ ⟨c, p, h⟩) (fun l h => mask ⟨l, h⟩) s)

theorem runTaken (s : State) (bytes : List Byte) : s.KeepsQueues (s.runTaken bytes) := by
  unfold State.runTaken
  split
  · split
    · exact request_queued (.refl s)
    · exact request_queued (.refl s)
    · exact runRequest s _
  · exact refl s

theorem decideRequest (s : State) (bytes : List Byte) : s.KeepsQueues (s.decideRequest bytes) := by
  unfold State.decideRequest
  split
  · exact runTaken s bytes
  · exact ⟨id, id, id, id⟩
  · exact ⟨id, id, id, id⟩
  · exact ⟨id, id, id, id⟩

end State.KeepsQueues

/-! ### Transactions -/

namespace State

variable {s : State}

/-- Step 1 of R166 ends the transmission, and takes at most the first answer and one entry out. -/
theorem settleOutbound_queues (o : Outbound) (count : Nat) :
    (s.settleOutbound o count).link.replies.length ≤ s.link.replies.length ∧
    (s.notices.InOrder → (s.settleOutbound o count).notices.InOrder) ∧ (s.settleOutbound o count).notices.transmitting = none := by
  have idle (h : s.notices.InOrder) : NoticeQueue.InOrder { s.notices with transmitting := none } := h.of_same rfl rfl rfl rfl
  unfold State.settleOutbound
  simp only []
  split
  · cases o with
    | empty => exact ⟨le_rfl, idle, rfl⟩
    | answer a => exact ⟨by simp, idle, rfl⟩
    | notice e =>
      have taken (h : s.notices.InOrder) := h.filter (fun x => x.age != e.age) s.notices.lost none
      unfold State.removeNotice
      simp only []
      split
      · exact ⟨le_rfl, taken, rfl⟩
      · exact ⟨le_rfl, taken, rfl⟩
  · exact ⟨le_rfl, idle, rfl⟩

theorem completeTransaction_keepsQueues (o : Outbound) (further : List Byte) : s.KeepsQueues (s.completeTransaction o further) := by
  obtain ⟨fewer, ordered, idle⟩ := settleOutbound_queues (s := s) o (s.clockedBytes further).length
  have decided := KeepsQueues.decideRequest (s.settleOutbound o (s.clockedBytes further).length) (s.clockedBytes further)
  exact ⟨fun h => decided.replies (fewer.trans h), fun h => decided.ordered (ordered h), fun _ => decided.idle idle,
    fun _ => (outboundInPlace_none rfl).2 (decided.idle idle)⟩

/-- The chosen outbound record stands where it was taken from. -/
theorem beginTransaction_outboundInPlace : s.beginTransaction.OutboundInPlace := by
  cases answers : s.link.replies with
  | cons a as =>
    have chosen : s.chooseOutbound = .answer a := by rw [State.chooseOutbound, answers]
    exact (outboundInPlace_answer (congrArg some chosen)).2
      ⟨congrArg List.head? answers, congrArg Outbound.transmits chosen⟩
  | nil =>
    cases candidate : s.notices.candidate with
    | some e =>
      have chosen : s.chooseOutbound = .notice e := by rw [State.chooseOutbound, answers, candidate]
      exact (outboundInPlace_notice (congrArg some chosen)).2
        ⟨(NoticeQueue.candidate_sendable candidate).1, congrArg Outbound.transmits chosen⟩
    | none =>
      have chosen : s.chooseOutbound = .empty := by rw [State.chooseOutbound, answers, candidate]
      exact (outboundInPlace_empty (congrArg some chosen)).2 (congrArg Outbound.transmits chosen)

end State

/-- The agreement of the link port with the report queue, on one state. -/
structure State.QueuesInv (s : State) : Prop where
  replies : s.link.replies.length ≤ 4
  notices : s.notices.InOrder
  outbound : s.OutboundInPlace

theorem State.KeepsQueues.inv {s t : State} (h : s.KeepsQueues t) (before : s.QueuesInv) : t.QueuesInv :=
  ⟨h.replies before.replies, h.ordered before.notices, h.outbound before.outbound⟩

theorem LineStep.queuesInv {s t : State} (step : LineStep s t) (before : s.QueuesInv) : t.QueuesInv := by
  cases step with
  | hold => exact (State.KeepsQueues.of_initial (nextAge := 0) rfl rfl rfl rfl).inv before
  | release held => exact (State.KeepsQueues.of_initial (nextAge := 0) rfl rfl rfl rfl).inv before
  | lines dark lamptest => exact ⟨before.replies, before.notices, before.outbound⟩
  | fallInReset => exact ⟨before.replies, before.notices, before.outbound⟩
  | fall working =>
    exact ⟨before.replies, before.notices.of_same rfl rfl rfl rfl, State.beginTransaction_outboundInPlace⟩
  | firstByte kind => exact ⟨before.replies, before.notices.of_same rfl rfl rfl rfl, before.outbound⟩
  | riseAlone none => exact ⟨before.replies, before.notices, before.outbound⟩
  | rise o further inProgress =>
    exact (State.completeTransaction_keepsQueues o further).inv ⟨before.replies, before.notices, before.outbound⟩

theorem exec_queuesInv {c : Instr} {s t : State} (ran : exec c s = .next t) (before : s.QueuesInv) : t.QueuesInv := by
  obtain rfl | ⟨-, rfl⟩ | line | ⟨b, moved⟩ | ⟨b, i, second, e, -, rfl⟩ := exec_cases ran
  · exact before
  · exact (State.KeepsQueues.runRequest s c).inv before
  · exact line.queuesInv before
  · exact (State.KeepsQueues.of_queued (.of_edits moved.edits)).inv before
  · exact (State.KeepsQueues.of_queued (.visitAnswered s b i e)).inv before

/-- Settles O54: `State.QueuesInv` is kept by every command, since a bus event only queues notices (`State.Queued`) and an
offer never drops the entry in transmission. -/
theorem stepKeepsTheQueuesInOrder : Obligations.StepKeepsTheQueuesInOrder := by
  intro s t replies notices outbound ran
  have after : t.QueuesInv := step_keeps (P := State.QueuesInv) (fun _ _ h => ⟨h.replies, h.notices, h.outbound⟩)
    (fun _ _ h => ⟨h.replies, h.notices, h.outbound⟩) (fun _ _ _ => exec_queuesInv) ran ⟨replies, notices, outbound⟩
  exact ⟨after.replies, after.notices, after.outbound⟩

end Sys2Proof.Machine
end

section
/-! Events of one bus leave the other buses alone (R106, R129, R141). Settles O59. -/

namespace Sys2Proof.Machine

open Sys2Proof.Claims

/-- `t` differs from `s` in what an event of bus `b` may change at most: its own records and locations, the report queue and the
shown mark, and the sessions and tasks of a key event. -/
structure OnlyBus (b : Fin 4) (s t : State) : Prop where
  blocks : ∀ d, d ≠ b → t.bus d = s.bus d ∧ t.feed d = s.feed d ∧ t.governor d = s.governor d
  locs : ∀ l : Loc, l.bus ≠ b → t.loc l = s.loc l
  timing : t.timing = s.timing
  ms0 : t.ms0 = s.ms0
  ms1 : t.ms1 = s.ms1
  strapMs0 : t.strapMs0 = s.strapMs0
  strapMs1 : t.strapMs1 = s.strapMs1
  classes : t.notices.classes = s.notices.classes
  mask : t.notices.mask = s.notices.mask
  now : t.now = s.now
  held : t.held = s.held
  lcs : t.lcs = s.lcs
  link : t.link = { s.link with shown := t.link.shown }

/-- Link ports that agree beside the shown mark. -/
theorem Link.eq_with_shown {x y : Link} (request : y.request = x.request) (replies : y.replies = x.replies)
    (lastOutcome : y.lastOutcome = x.lastOutcome) (readySample : y.readySample = x.readySample)
    (outbound : y.outbound = x.outbound) (status : y.status = x.status) : y = { x with shown := y.shown } := by
  cases x
  cases y
  simp_all only

namespace OnlyBus

variable {b : Fin 4} {s t u : State}

theorem refl : OnlyBus b s s := ⟨fun _ _ => ⟨rfl, rfl, rfl⟩, fun _ _ => rfl, rfl, rfl, rfl, rfl, rfl, rfl, rfl, rfl, rfl, rfl, rfl⟩

theorem trans (h : OnlyBus b s t) (k : OnlyBus b t u) : OnlyBus b s u where
  blocks := fun d hd =>
    ⟨(k.blocks d hd).1.trans (h.blocks d hd).1, (k.blocks d hd).2.1.trans (h.blocks d hd).2.1,
      (k.blocks d hd).2.2.trans (h.blocks d hd).2.2⟩
  locs := fun l hl => (k.locs l hl).trans (h.locs l hl)
  timing := k.timing.trans h.timing
  ms0 := k.ms0.trans h.ms0
  ms1 := k.ms1.trans h.ms1
  strapMs0 := k.strapMs0.trans h.strapMs0
  strapMs1 := k.strapMs1.trans h.strapMs1
  classes := k.classes.trans h.classes
  mask := k.mask.trans h.mask
  now := k.now.trans h.now
  held := k.held.trans h.held
  lcs := k.lcs.trans h.lcs
  link := by rw [k.link, h.link]

/-- An update of sessions, tasks, locations of the bus and notices, seen through its frame. -/
theorem of_frame (buses : ∀ d, t.bus d = s.bus d) (feeds : ∀ d, t.feed d = s.feed d) (governors : ∀ d, t.governor d = s.governor d)
    (locs : ∀ l : Loc, l.bus ≠ b → t.loc l = s.loc l) (timing : t.timing = s.timing)
    (lines : t.ms0 = s.ms0 ∧ t.ms1 = s.ms1 ∧ t.strapMs0 = s.strapMs0 ∧ t.strapMs1 = s.strapMs1)
    (tables : t.notices.classes = s.notices.classes ∧ t.notices.mask = s.notices.mask)
    (rest : t.now = s.now ∧ t.held = s.held ∧ t.lcs = s.lcs)
    (link : t.link.request = s.link.request ∧ t.link.replies = s.link.replies ∧ t.link.lastOutcome = s.link.lastOutcome ∧
      t.link.readySample = s.link.readySample ∧ t.link.outbound = s.link.outbound ∧ t.link.status = s.link.status) :
    OnlyBus b s t := by
  obtain ⟨ms0, ms1, strapMs0, strapMs1⟩ := lines
  obtain ⟨request, replies, lastOutcome, readySample, outbound, status⟩ := link
  exact ⟨fun d _ => ⟨buses d, feeds d, governors d⟩, locs, timing, ms0, ms1, strapMs0, strapMs1, tables.1, tables.2, rest.1,
    rest.2.1, rest.2.2, Link.eq_with_shown request replies lastOutcome readySample outbound status⟩

theorem notice (n : Notice) (c : Option Nat) : OnlyBus b s (s.queueNotice n c) := by
  apply of_frame <;> simp

theorem of_edits (h : Edits b s t) : OnlyBus b s t := by
  induction h with
  | refl => exact refl
  | setBus x _ ih =>
    exact ih.trans ⟨fun d hd => ⟨by simp [hd], rfl, rfl⟩, fun _ _ => rfl, rfl, rfl, rfl, rfl, rfl, rfl, rfl, rfl, rfl, rfl, rfl⟩
  | setFeed x _ ih =>
    exact ih.trans ⟨fun d hd => ⟨rfl, by simp [hd], rfl⟩, fun _ _ => rfl, rfl, rfl, rfl, rfl, rfl, rfl, rfl, rfl, rfl, rfl, rfl⟩
  | setGovernor x _ ih =>
    exact ih.trans ⟨fun d hd => ⟨rfl, rfl, by simp [hd]⟩, fun _ _ => rfl, rfl, rfl, rfl, rfl, rfl, rfl, rfl, rfl, rfl, rfl, rfl⟩
  | setLoc l x of_bus _ _ ih =>
    have elsewhere (m : Loc) (hm : m.bus ≠ b) : m ≠ l := fun same => hm (same ▸ of_bus)
    exact ih.trans ⟨fun _ _ => ⟨rfl, rfl, rfl⟩, fun m hm => by simp [elsewhere m hm], rfl, rfl, rfl, rfl, rfl, rfl, rfl, rfl, rfl, rfl, rfl⟩
  | mapLocs f _ _ ih =>
    exact ih.trans ⟨fun _ _ => ⟨rfl, rfl, rfl⟩, fun m hm => by simp [hm], rfl, rfl, rfl, rfl, rfl, rfl, rfl, rfl, rfl, rfl, rfl⟩
  | notice n _ ih => exact ih.trans (OnlyBus.notice n none)

theorem applyConfirm {t : Task} (of_bus : t.loc.bus = b) (offered : Nat) : OnlyBus b s (s.applyConfirm t offered) := by
  have elsewhere (m : Loc) (hm : m.bus ≠ b) : m ≠ t.loc := fun same => hm (same ▸ of_bus)
  have locs (m : Loc) (hm : m.bus ≠ b) : (s.applyConfirm t offered).loc m = s.loc m := by
    obtain ⟨-, case⟩ | ⟨-, -, case⟩ | ⟨-, -, -, case⟩ | ⟨-, -, -, case⟩ := s.applyConfirm_cases t offered
    all_goals rw [case]
    · rw [State.loc_closeTask, if_neg (elsewhere m hm)]
    · rw [State.loc_closeTask, if_neg (elsewhere m hm)]
    · rw [State.loc_closeTask, if_neg (elsewhere m hm)]
    · rw [State.loc_keepPartial, if_neg (elsewhere m hm)]
  refine of_frame ?_ ?_ ?_ locs ?_ ?_ ?_ ?_ ?_ <;> simp

theorem of_press {l : Loc} (of_bus : l.bus = b) (h : PressStep l s t) : OnlyBus b s t := by
  have elsewhere (m : Loc) (hm : m.bus ≠ b) : m ≠ l := fun same => hm (same ▸ of_bus)
  cases h with
  | silent => exact refl
  | told n => exact notice n none
  | held t press _ _ _ _ => apply of_frame <;> simp
  | confirmed t _ isOpen _ => exact applyConfirm ((Task.openAt_iff.1 isOpen).2.1 ▸ of_bus) _
  | minus t _ _ =>
    refine of_frame ?_ ?_ ?_ (fun m hm => ?_) ?_ ?_ ?_ ?_ ?_
    case refine_4 => simp [State.applyMinus, State.setHold, elsewhere m hm]
    all_goals simp
  | plus t _ _ =>
    refine of_frame ?_ ?_ ?_ (fun m hm => ?_) ?_ ?_ ?_ ?_ ?_
    case refine_4 => simp [State.applyPlus, State.setHold, elsewhere m hm]
    all_goals simp

end OnlyBus

/-- `t` holds the sessions, tasks and task lists of `s`. -/
structure SameStore (s t : State) : Prop where
  sessions : t.sessions = s.sessions
  tasks : t.tasks = s.tasks
  closures : t.closures = s.closures
  lists : ∀ l, (t.loc l).tasks = (s.loc l).tasks

theorem Edits.sameStore {b : Fin 4} {s t : State} (h : Edits b s t) : SameStore s t := by
  induction h with
  | refl => exact ⟨rfl, rfl, rfl, fun _ => rfl⟩
  | setBus x _ ih => exact ⟨ih.sessions, ih.tasks, ih.closures, ih.lists⟩
  | setFeed x _ ih => exact ⟨ih.sessions, ih.tasks, ih.closures, ih.lists⟩
  | setGovernor x _ ih => exact ⟨ih.sessions, ih.tasks, ih.closures, ih.lists⟩
  | setLoc l x _ same_list _ ih =>
    refine ⟨ih.sessions, ih.tasks, ih.closures, fun m => ?_⟩
    rw [State.loc_setLoc]
    split
    next here => rw [same_list, here, ih.lists]
    next => exact ih.lists m
  | mapLocs f same_list _ ih =>
    refine ⟨ih.sessions, ih.tasks, ih.closures, fun m => ?_⟩
    rw [State.loc_mapBusLocs]
    split
    · rw [same_list, ih.lists]
    · exact ih.lists m
  | notice n _ ih => exact ⟨by simpa using ih.sessions, by simpa using ih.tasks, by simpa using ih.closures, by simpa using ih.lists⟩

theorem exec_onlyBus {c : Instr} {b : Fin 4} {s t : State} (of_bus : busOfCommand c = some b) (ran : exec c s = .next t) :
    OnlyBus b s t := by
  obtain rfl | moved | ⟨_, i, _, e, -, -, rfl⟩ := exec_bus of_bus ran
  · exact .refl
  · exact .of_edits moved.edits
  · obtain ⟨u, v, before, press, after⟩ := visitAnswered_steps s b i e
    exact ((OnlyBus.of_edits before).trans (.of_press rfl press)).trans (.of_edits after)

theorem exec_sameStore {c : Instr} {b : Fin 4} {s t : State} (of_bus : busOfCommand c = some b)
    (no_keys : ∀ frame, c ≠ .keysAnswer b frame) (ran : exec c s = .next t) : SameStore s t := by
  obtain ⟨u, hu, rfl | moved⟩ := exec_steps of_bus no_keys s
  all_goals obtain rfl : u = t := Host.Outcome.next.inj (hu.symm.trans ran)
  · exact Edits.sameStore (b := b) .refl
  · exact moved.edits.sameStore

/-- Settles O59: a bus event is made of edits of its own bus (`Edits`), with at most one press resolved between them
(`PressStep`). -/
theorem eventsOfOneBusLeaveTheOthers : Obligations.EventsOfOneBusLeaveTheOthers := by
  intro c b s t of_bus ran
  obtain ⟨blocks, locs, timing, ms0, ms1, strapMs0, strapMs1, classes, mask, now, held, lcs, link⟩ := exec_onlyBus of_bus ran
  refine ⟨blocks, locs, timing, ms0, ms1, strapMs0, strapMs1, classes, mask, now, held, lcs, link, fun no_keys => ?_⟩
  obtain ⟨sessions, tasks, -, lists⟩ := exec_sameStore of_bus no_keys ran
  exact ⟨sessions, tasks, lists⟩

end Sys2Proof.Machine
end

section
/-! The task store: chains, lists and closures under the edits that requests and key events make (R20 to R40). -/

namespace Sys2Proof.Machine

open Sys2Proof.Claims

/-! ### Chains (R30) -/

/-- Chains are linked on both sides and never return. -/
structure Linked (ts : List Task) : Prop where
  succs : ∀ t ∈ ts, ∀ q, t.succ = some q → ∃ u ∈ ts, u.id = q ∧ t.linksTo u
  preds : ∀ u ∈ ts, ∀ p, u.pred = some p → ∃ t ∈ ts, t.id = p ∧ t.linksTo u
  acyclic : ∃ rank : Nat → Nat, ∀ t ∈ ts, ∀ q, t.succ = some q → rank t.id < rank q

theorem eq_of_id {ts : List Task} (ids : (ts.map Task.id).Nodup) {t u : Task} (ht : t ∈ ts) (hu : u ∈ ts) (same : t.id = u.id) :
    t = u := List.inj_on_of_nodup_map ids ht hu same

/-- Records taken out and changed so that a link goes on both sides or stays on both sides leave the chains linked. -/
theorem Linked.cut {ts : List Task} (h : Linked ts) (keep : Task → Bool) (g : Task → Task)
    (same : ∀ t, (g t).id = t.id ∧ (g t).slot = t.slot)
    (succ : ∀ t ∈ ts, ∀ q, (g t).succ = some q → t.succ = some q ∧ (g t).live = true)
    (pred : ∀ u ∈ ts, ∀ p, (g u).pred = some p → u.pred = some p ∧ (g u).live = true)
    (both : ∀ t ∈ ts, ∀ u ∈ ts, t.linksTo u →
      (keep t = true ∧ (g t).succ = some u.id ↔ keep u = true ∧ (g u).pred = some t.id)) :
    Linked ((ts.filter keep).map g) where
  succs := fun t' ht' q hq => by
    obtain ⟨t, ht, rfl⟩ := List.mem_map.1 ht'
    obtain ⟨mem, kept⟩ := List.mem_filter.1 ht
    obtain ⟨before, live⟩ := succ t mem q hq
    obtain ⟨u, hu, rfl, links⟩ := h.succs t mem q before
    obtain ⟨kept_u, back⟩ := (both t mem u hu links).1 ⟨kept, hq⟩
    have same_slot : (g t).slot = (g u).slot := by rw [(same t).2, (same u).2, links.2.2.1]
    exact ⟨g u, List.mem_map_of_mem (List.mem_filter.2 ⟨hu, kept_u⟩), (same u).1, by rw [(same u).1, hq],
      by rw [(same t).1, back], same_slot, live, (pred u hu _ back).2⟩
  preds := fun u' hu' p hp => by
    obtain ⟨u, hu, rfl⟩ := List.mem_map.1 hu'
    obtain ⟨mem, kept⟩ := List.mem_filter.1 hu
    obtain ⟨before, live⟩ := pred u mem p hp
    obtain ⟨t, ht, rfl, links⟩ := h.preds u mem p before
    obtain ⟨kept_t, forth⟩ := (both t ht u mem links).2 ⟨kept, hp⟩
    have same_slot : (g t).slot = (g u).slot := by rw [(same t).2, (same u).2, links.2.2.1]
    exact ⟨g t, List.mem_map_of_mem (List.mem_filter.2 ⟨ht, kept_t⟩), (same t).1, by rw [(same u).1, forth],
      by rw [(same t).1, hp], same_slot, (succ t ht _ forth).2, live⟩
  acyclic := by
    obtain ⟨rank, ranked⟩ := h.acyclic
    refine ⟨rank, fun t' ht' q hq => ?_⟩
    obtain ⟨t, ht, rfl⟩ := List.mem_map.1 ht'
    have mem := List.mem_of_mem_filter ht
    rw [(same t).1]
    exact ranked t mem q (succ t mem q hq).1

/-- Changes of other fields leave the chains as they are. -/
theorem Linked.relabel {ts : List Task} (h : Linked ts) (g : Task → Task)
    (same : ∀ t, (g t).id = t.id ∧ (g t).slot = t.slot ∧ (g t).succ = t.succ ∧ (g t).pred = t.pred ∧ (g t).live = t.live) :
    Linked (ts.map g) := by
  have relinked := h.cut (fun _ => true) g (fun t => ⟨(same t).1, (same t).2.1⟩)
    (fun t ht q hq => by
      have before := (same t).2.2.1 ▸ hq
      obtain ⟨_, _, _, links⟩ := h.succs t ht q before
      exact ⟨before, (same t).2.2.2.2 ▸ links.2.2.2.1⟩)
    (fun u hu p hp => by
      have before := (same u).2.2.2.1 ▸ hp
      obtain ⟨_, _, _, links⟩ := h.preds u hu p before
      exact ⟨before, (same u).2.2.2.2 ▸ links.2.2.2.2⟩)
    (fun t _ u _ links => by simp [(same t).2.2.1, (same u).2.2.2.1, links.1, links.2.1])
  rwa [List.filter_true] at relinked

/-- Records taken out together with all they are linked to leave the chains linked. -/
theorem Linked.filter {ts : List Task} (h : Linked ts) (keep : Task → Bool)
    (closed : ∀ t ∈ ts, ∀ u ∈ ts, t.linksTo u → keep t = keep u) : Linked (ts.filter keep) := by
  have cut := h.cut keep id (fun _ => ⟨rfl, rfl⟩)
    (fun t ht q hq => by
      obtain ⟨_, _, _, links⟩ := h.succs t ht q hq
      exact ⟨hq, links.2.2.2.1⟩)
    (fun u hu p hp => by
      obtain ⟨_, _, _, links⟩ := h.preds u hu p hp
      exact ⟨hp, links.2.2.2.2⟩)
    (fun t ht u hu links => by simp [closed t ht u hu links, links.1, links.2.1])
  rwa [List.map_id] at cut

/-! ### Closures (R40) -/

/-- A closure has one record: no two records name the same one. -/
theorem closures_nodup_iff {ts : List Task} (ids : (ts.map Task.id).Nodup) :
    (ts.filterMap Task.closure).Nodup ↔
      ∀ t ∈ ts, ∀ u ∈ ts, ∀ n, t.closure = some n → u.closure = some n → t = u := by
  have distinct : ts.Nodup := ids.of_map
  rw [List.Nodup, List.pairwise_filterMap]
  constructor
  · intro apart t ht u hu n hn hm
    have symm : Std.Symm fun a a' : Task => ∀ n, a.closure = some n → ∀ m, a'.closure = some m → n ≠ m :=
      ⟨fun _ _ h n hn m hm => (h m hm n hn).symm⟩
    by_contra other
    exact apart.forall ht hu other n hn n hm rfl
  · intro unique
    refine distinct.imp_of_mem fun {t u} ht hu other n hn m hm same => other ?_
    subst same
    exact unique t ht u hu n hn hm

/-! ### The store without the held confirmations and the reports -/

/-- The agreement of the task store with task lists, sessions and closures: `State.StoreInv` without what it says of the held
confirmations and of the report queue. -/
structure State.StoreCore (s : State) : Prop where
  room : s.tasks.length ≤ 512
  ids : (s.tasks.map Task.id).Nodup
  records : ∀ t ∈ s.tasks, t.Coherent
  linked : Linked s.tasks
  lists : ∀ l, (s.loc l).tasks.length ≤ 8 ∧ (s.loc l).tasks.Nodup
  listed : ∀ l id, id ∈ (s.loc l).tasks ↔ ∃ t ∈ s.tasks, t.id = id ∧ t.live = true ∧ t.loc = l
  covered : ∀ t ∈ s.tasks, t.live = true → (s.session t.slot).state ≠ .free ∧ (s.session t.slot).covers t.loc = true
  closures : (s.tasks.filterMap Task.closure).Nodup ∧ ∀ t ∈ s.tasks, ∀ n, t.closure = some n → n < s.closures

/-- Every held confirmation of the slot names an OPEN task of it (R12, R13). -/
def State.HeldOpen (s : State) (i : Fin 8) : Prop :=
  ∀ e ∈ (s.session i).pending, ∃ t ∈ s.tasks, t.id = e.task ∧ t.state = .opened ∧ t.slot = i

/-- No notice names a closure to come (R40). -/
def State.ReportsCounted (s : State) : Prop := ∀ e ∈ s.notices.entries, ∀ n, e.closure = some n → n < s.closures

theorem storeInv_iff (s : State) : s.StoreInv ↔ s.StoreCore ∧ s.ReportsCounted ∧ ∀ i, s.HeldOpen i :=
  ⟨fun h => ⟨⟨h.room, h.ids, h.records, ⟨h.succs, h.preds, h.acyclic⟩, h.lists, h.listed, h.covered, h.closures⟩, h.reports, h.held⟩,
    fun ⟨h, reports, held⟩ => ⟨h.room, h.ids, h.records, h.linked.succs, h.linked.preds, h.linked.acyclic, h.lists, h.listed,
      h.covered, h.closures, reports, held⟩⟩

theorem State.Queued.reportsCounted {s t : State} (h : s.Queued t) (before : s.ReportsCounted) : t.ReportsCounted := by
  intro e he n hn
  obtain old | new := h.named e he
  · exact (before e old n hn).trans_le h.closures
  · exact new n hn

namespace State.StoreCore

variable {s t : State}

/-- One record to an id (R20). -/
theorem eq_of_id (h : s.StoreCore) {x y : Task} (hx : x ∈ s.tasks) (hy : y ∈ s.tasks) (same : x.id = y.id) : x = y :=
  Machine.eq_of_id h.ids hx hy same

theorem stored (h : s.StoreCore) {x : Task} (hx : x ∈ s.tasks) : s.findTask x.id = some x := findTask_of_mem h.ids hx

/-- Records taken out of the store and changed, with the task lists that follow them, leave the agreement; at most the record
`fresh` takes a closure, the next one. -/
theorem transform (h : s.StoreCore) (keep : Task → Bool) (g : Task → Task) (fresh : Nat)
    (tasks : t.tasks = (s.tasks.filter keep).map g)
    (same : ∀ x, (g x).id = x.id ∧ (g x).slot = x.slot ∧ (g x).loc = x.loc)
    (records : ∀ x ∈ s.tasks, keep x = true → (g x).Coherent)
    (linked : Linked t.tasks)
    (live : ∀ x ∈ s.tasks, (g x).live = true → x.live = true)
    (sublist : ∀ l, (t.loc l).tasks.Sublist (s.loc l).tasks)
    (listed : ∀ x ∈ s.tasks, x.live = true → (x.id ∈ (t.loc x.loc).tasks ↔ keep x = true ∧ (g x).live = true))
    (covered : ∀ x ∈ s.tasks, keep x = true → (g x).live = true →
      (t.session x.slot).state ≠ .free ∧ (t.session x.slot).covers x.loc = true)
    (counted : s.closures ≤ t.closures)
    (closures : ∀ x ∈ s.tasks, ∀ n, (g x).closure = some n →
      x.closure = some n ∨ (x.id = fresh ∧ n = s.closures ∧ n < t.closures)) : t.StoreCore where
  room := by
    rw [tasks, List.length_map]
    exact (List.length_filter_le _ _).trans h.room
  ids := by
    have same_ids : t.tasks.map Task.id = (s.tasks.filter keep).map Task.id := by
      rw [tasks, List.map_map]
      exact List.map_congr_left fun x _ => (same x).1
    rw [same_ids]
    exact h.ids.sublist (List.filter_sublist.map _)
  records := fun y hy => by
    rw [tasks] at hy
    obtain ⟨x, hx, rfl⟩ := List.mem_map.1 hy
    obtain ⟨mem, kept⟩ := List.mem_filter.1 hx
    exact records x mem kept
  linked := linked
  lists := fun l => ⟨(sublist l).length_le.trans (h.lists l).1, (h.lists l).2.sublist (sublist l)⟩
  listed := fun l id => by
    constructor
    · intro there
      obtain ⟨x, hx, rfl, hlive, rfl⟩ := (h.listed l id).1 ((sublist l).mem there)
      obtain ⟨kept, still⟩ := (listed x hx hlive).1 there
      exact ⟨g x, tasks ▸ List.mem_map_of_mem (List.mem_filter.2 ⟨hx, kept⟩), (same x).1, still, (same x).2.2⟩
    · rintro ⟨y, hy, rfl, hlive, rfl⟩
      rw [tasks] at hy
      obtain ⟨x, hx, rfl⟩ := List.mem_map.1 hy
      obtain ⟨mem, kept⟩ := List.mem_filter.1 hx
      rw [(same x).1, (same x).2.2]
      exact (listed x mem (live x mem hlive)).2 ⟨kept, hlive⟩
  covered := fun y hy hlive => by
    rw [tasks] at hy
    obtain ⟨x, hx, rfl⟩ := List.mem_map.1 hy
    obtain ⟨mem, kept⟩ := List.mem_filter.1 hx
    rw [(same x).2.1, (same x).2.2]
    exact covered x mem kept hlive
  closures := by
    have ids : (t.tasks.map Task.id).Nodup := by
      have same_ids : t.tasks.map Task.id = (s.tasks.filter keep).map Task.id := by
        rw [tasks, List.map_map]
        exact List.map_congr_left fun x _ => (same x).1
      rw [same_ids]
      exact h.ids.sublist (List.filter_sublist.map _)
    have unique := (closures_nodup_iff h.ids).1 h.closures.1
    constructor
    · rw [closures_nodup_iff ids, tasks]
      intro y hy z hz n hn hm
      obtain ⟨x, hx, rfl⟩ := List.mem_map.1 hy
      obtain ⟨w, hw, rfl⟩ := List.mem_map.1 hz
      have mem_x := List.mem_of_mem_filter hx
      have mem_w := List.mem_of_mem_filter hw
      obtain old | ⟨new, rfl, -⟩ := closures x mem_x n hn
      · obtain old' | ⟨-, rfl, -⟩ := closures w mem_w n hm
        · rw [unique x mem_x w mem_w n old old']
        · exact absurd (h.closures.2 x mem_x _ old) (lt_irrefl _)
      · obtain old' | ⟨new', -, -⟩ := closures w mem_w s.closures hm
        · exact absurd (h.closures.2 w mem_w _ old') (lt_irrefl _)
        · rw [h.eq_of_id mem_x mem_w (new.trans new'.symm)]
    · intro y hy n hn
      rw [tasks] at hy
      obtain ⟨x, hx, rfl⟩ := List.mem_map.1 hy
      obtain old | ⟨-, -, bound⟩ := closures x (List.mem_of_mem_filter hx) n hn
      · exact (h.closures.2 x (List.mem_of_mem_filter hx) n old).trans_le counted
      · exact bound

/-- Changes of quantities, offers and instants leave the agreement. -/
theorem relabel (h : s.StoreCore) (g : Task → Task) (tasks : t.tasks = s.tasks.map g)
    (same : ∀ x, (g x).id = x.id ∧ (g x).slot = x.slot ∧ (g x).loc = x.loc ∧ (g x).succ = x.succ ∧ (g x).pred = x.pred ∧
      (g x).live = x.live ∧ (g x).closure = x.closure)
    (records : ∀ x ∈ s.tasks, (g x).Coherent) (lists : ∀ l, (t.loc l).tasks = (s.loc l).tasks)
    (sessions : ∀ x ∈ s.tasks, x.live = true → (t.session x.slot).state ≠ .free ∧ (t.session x.slot).covers x.loc = true)
    (closures : t.closures = s.closures) : t.StoreCore := by
  have linked : Linked t.tasks := tasks ▸ h.linked.relabel g fun x =>
    ⟨(same x).1, (same x).2.1, (same x).2.2.2.1, (same x).2.2.2.2.1, (same x).2.2.2.2.2.1⟩
  have live (x : Task) : (g x).live = x.live := (same x).2.2.2.2.2.1
  refine h.transform (fun _ => true) g 0 (by rw [List.filter_true, tasks]) (fun x => ⟨(same x).1, (same x).2.1, (same x).2.2.1⟩)
    (fun x hx _ => records x hx) linked (fun x _ hlive => (live x).symm.trans hlive) (fun l => lists l ▸ .refl _) (fun x hx hlive => ?_)
    (fun x hx _ hlive => sessions x hx ((live x).symm.trans hlive)) closures.ge (fun x _ n hn => .inl ((same x).2.2.2.2.2.2 ▸ hn))
  rw [lists, h.listed, live]
  exact ⟨fun _ => ⟨rfl, hlive⟩, fun _ => ⟨x, hx, rfl, hlive, rfl⟩⟩

/-- What touches neither tasks nor task lists leaves the agreement where the sessions go on covering the tasks. -/
theorem of_sessions (h : s.StoreCore) (tasks : t.tasks = s.tasks) (lists : ∀ l, (t.loc l).tasks = (s.loc l).tasks)
    (sessions : ∀ x ∈ s.tasks, x.live = true → (t.session x.slot).state ≠ .free ∧ (t.session x.slot).covers x.loc = true)
    (closures : t.closures = s.closures) : t.StoreCore :=
  h.relabel id (by rw [List.map_id, tasks]) (fun _ => ⟨rfl, rfl, rfl, rfl, rfl, rfl, rfl⟩) h.records lists sessions closures

theorem of_sameStore (h : s.StoreCore) (same : SameStore s t) : t.StoreCore := by
  have session (i : Fin 8) : t.session i = s.session i := congrArg (fun v : Vector Session 8 => v[i.val]) same.sessions
  exact h.of_sessions same.tasks same.lists (fun x hx hlive => session x.slot ▸ h.covered x hx hlive) same.closures

end State.StoreCore

end Sys2Proof.Machine
end

section
/-! Closure, KEEP partial and the CONFIRM rule keep the task store in agreement (R30, R31, R79, R80). -/

namespace Sys2Proof.Machine

open Sys2Proof.Claims

theorem Task.live_iff {t : Task} : t.live = true ↔ t.state ≠ .closed := by simp [Task.live]

theorem Task.live_of_opened {t : Task} (h : t.state = .opened) : t.live = true := by simp [Task.live, h]

theorem Task.live_of_waiting {t : Task} (h : t.state = .waiting) : t.live = true := by simp [Task.live, h]

/-- A record closed (R31). -/
def Task.closedAs (x : Task) (o : TaskOutcome) (picked closure : Nat) : Task :=
  { x with picked := picked, state := .closed, outcome := some o, offered := 0, succ := none, closure := some closure }

/-- A successor released (R30). -/
def Task.released (x : Task) : Task := { x with state := .opened, pred := none }

/-- What the closure of `t` makes of a record. -/
def Task.afterClosure (t : Task) (o : TaskOutcome) (picked closure : Nat) (x : Task) : Task :=
  if x.id = t.id then x.closedAs o picked closure else if t.succ = some x.id then x.released else x

theorem Task.afterClosure_keys (t : Task) (o : TaskOutcome) (picked closure : Nat) (x : Task) :
    (t.afterClosure o picked closure x).id = x.id ∧ (t.afterClosure o picked closure x).slot = x.slot ∧
      (t.afterClosure o picked closure x).loc = x.loc := by
  unfold Task.afterClosure
  split
  · exact ⟨rfl, rfl, rfl⟩
  · split <;> exact ⟨rfl, rfl, rfl⟩

/-- No task is its own successor. -/
theorem Linked.succ_ne {ts : List Task} (h : Linked ts) {t : Task} (ht : t ∈ ts) : t.succ ≠ some t.id := by
  obtain ⟨rank, ranked⟩ := h.acyclic
  exact fun same => lt_irrefl _ (ranked t ht t.id same)

namespace State.StoreCore

variable {s : State} {t : Task}

theorem tasks_closeTask (h : s.StoreCore) (ht : t ∈ s.tasks) (o : TaskOutcome) (picked : Nat) :
    (s.closeTask t o picked).tasks = s.tasks.map (t.afterClosure o picked s.closures) := by
  have no_loop := h.linked.succ_ne ht
  rw [State.tasks_closeTask, List.map_map]
  refine List.map_congr_left fun x _ => ?_
  simp only [Function.comp_apply, Task.afterClosure]
  split
  next same =>
    have other : t.succ ≠ some x.id := same ▸ no_loop
    exact if_neg other
  next => rfl

/-- The successor of an OPEN task waits for it. -/
theorem waiting_of_succ (h : s.StoreCore) {u : Task} (hu : u ∈ s.tasks) (links : t.linksTo u) : u.state = .waiting := by
  obtain ⟨-, back, -, -, live⟩ := links
  cases state : u.state with
  | waiting => rfl
  | opened => exact absurd ((h.records u hu).opened state) (by rw [back]; simp)
  | closed => exact absurd state (Task.live_iff.1 live)

theorem closeTask_linked (h : s.StoreCore) (ht : t ∈ s.tasks) (opened : t.state = .opened) (o : TaskOutcome) (picked : Nat) :
    Linked (s.closeTask t o picked).tasks := by
  have first : t.pred = none := (h.records t ht).opened opened
  have cut := h.linked.cut (fun _ => true) (t.afterClosure o picked s.closures)
    (fun x => ⟨(t.afterClosure_keys o picked s.closures x).1, (t.afterClosure_keys o picked s.closures x).2.1⟩) ?_ ?_ ?_
  · rwa [List.filter_true, ← h.tasks_closeTask ht] at cut
  · intro x hx q hq
    unfold Task.afterClosure at hq ⊢
    split at hq
    · exact nomatch hq
    next other =>
      rw [if_neg other]
      split at hq
      next is_succ =>
        rw [if_pos is_succ]
        exact ⟨hq, rfl⟩
      next not_succ =>
        rw [if_neg not_succ]
        obtain ⟨_, _, _, links⟩ := h.linked.succs x hx q hq
        exact ⟨hq, links.2.2.2.1⟩
  · intro x hx p hp
    unfold Task.afterClosure at hp ⊢
    split at hp
    next same =>
      obtain rfl := h.eq_of_id hx ht same
      exact absurd (first.symm.trans hp) (by simp)
    next other =>
      rw [if_neg other]
      split at hp
      · exact nomatch hp
      next not_succ =>
        rw [if_neg not_succ]
        obtain ⟨_, _, _, links⟩ := h.linked.preds x hx p hp
        exact ⟨hp, links.2.2.2.2⟩
  · intro x hx y hy links
    have y_not_t : y.id ≠ t.id := fun same => by
      obtain rfl := h.eq_of_id hy ht same
      exact absurd (first.symm.trans links.2.1) (by simp)
    unfold Task.afterClosure
    rw [if_neg y_not_t]
    by_cases x_is_t : x.id = t.id
    · obtain rfl := h.eq_of_id hx ht x_is_t
      simp [Task.closedAs, Task.released, links.1]
    · have not_succ : t.succ ≠ some y.id := fun is_succ => by
        obtain ⟨z, hz, same, back⟩ := h.linked.succs t ht _ is_succ
        obtain rfl := h.eq_of_id hz hy same
        exact x_is_t (Option.some.inj (links.2.1.symm.trans back.2.1))
      rw [if_neg x_is_t, if_neg not_succ]
      split <;> simp [Task.released, links.1, links.2.1]

/-- The lists after a closure: the closed task has left its own. -/
theorem lists_closeTask (o : TaskOutcome) (picked : Nat) (l : Loc) :
    ((s.closeTask t o picked).loc l).tasks = if l = t.loc then (s.loc l).tasks.filter fun i => i != t.id else (s.loc l).tasks := by
  rw [State.loc_closeTask]
  split
  next here => rw [here]
  next => rfl

/-- A closure keeps the store in agreement, if the picked quantity fits the outcome (R31, R79). -/
theorem closeTask (h : s.StoreCore) (ht : t ∈ s.tasks) (opened : t.state = .opened) {o : TaskOutcome} {picked : Nat}
    (fits : picked ≤ t.requested) (done : o = .done ↔ picked = t.requested) : (s.closeTask t o picked).StoreCore := by
  have coherent := h.records t ht
  refine h.transform (fun _ => true) (t.afterClosure o picked s.closures) t.id
    (by rw [List.filter_true, h.tasks_closeTask ht]) (t.afterClosure_keys o picked s.closures) ?_
    (h.closeTask_linked ht opened o picked) ?_ ?_ ?_ ?_ (by simp) ?_
  · intro x hx _
    unfold Task.afterClosure
    split
    next same =>
      obtain rfl := h.eq_of_id hx ht same
      exact ⟨coherent.id, fits, coherent.requested, Nat.zero_le _, fun hlive => (nomatch hlive), fun state => (nomatch state),
        fun state => (nomatch state), fun _ => ⟨rfl, coherent.opened opened, rfl, rfl, rfl, by simpa [Task.closedAs] using done⟩⟩
    next =>
      split
      next is_succ =>
        obtain ⟨u, hu, same, links⟩ := h.linked.succs t ht x.id is_succ
        obtain rfl := h.eq_of_id hu hx same
        have waits := h.records u hu
        exact ⟨waits.id, waits.picked, waits.requested, waits.offered, fun _ => waits.live links.2.2.2.2, fun _ => rfl,
          fun state => (nomatch state), fun state => (nomatch state)⟩
      next => exact h.records x hx
  · intro x hx hlive
    unfold Task.afterClosure at hlive
    split at hlive
    · exact nomatch hlive
    · split at hlive
      next is_succ =>
        obtain ⟨u, hu, same, links⟩ := h.linked.succs t ht x.id is_succ
        obtain rfl := h.eq_of_id hu hx same
        exact links.2.2.2.2
      next => exact hlive
  · intro l
    rw [lists_closeTask]
    split
    · exact List.filter_sublist
    · exact .refl _
  · intro x hx hlive
    have there : x.id ∈ (s.loc x.loc).tasks := (h.listed _ _).2 ⟨x, hx, rfl, hlive, rfl⟩
    rw [lists_closeTask]
    unfold Task.afterClosure
    by_cases same : x.id = t.id
    · obtain rfl := h.eq_of_id hx ht same
      rw [if_pos rfl, if_pos rfl]
      simp [Task.closedAs, Task.live]
    · rw [if_neg same]
      have still : (if t.succ = some x.id then x.released else x).live = true := by
        split
        · rfl
        · exact hlive
      refine ⟨fun _ => ⟨rfl, still⟩, fun _ => ?_⟩
      split
      · exact List.mem_filter.2 ⟨there, by simpa using same⟩
      · exact there
  · intro x hx _ hlive
    have before : x.live = true := by
      unfold Task.afterClosure at hlive
      split at hlive
      · exact nomatch hlive
      · split at hlive
        next is_succ =>
          obtain ⟨u, hu, same, links⟩ := h.linked.succs t ht x.id is_succ
          obtain rfl := h.eq_of_id hu hx same
          exact links.2.2.2.2
        next => exact hlive
    simpa using h.covered x hx before
  · intro x hx n hn
    unfold Task.afterClosure at hn
    split at hn
    next same => exact .inr ⟨same, (Option.some.inj hn).symm, by rw [← Option.some.inj hn]; simp⟩
    next => split at hn <;> exact .inl hn

theorem keepPartial (h : s.StoreCore) (ht : t ∈ s.tasks) {offered : Nat} (opened : t.state = .opened)
    (less : offered < t.remaining) : (s.keepPartial t offered).StoreCore := by
  have below : t.picked + offered < t.requested := by
    unfold Task.remaining at less
    omega
  refine h.relabel (fun x => if x.id = t.id then
      { x with picked := t.picked + offered, offered := x.requested - (t.picked + offered) } else x)
    (by rw [tasks_keepPartial]) (fun x => ?_) (fun x hx => ?_) (fun l => ?_) (fun x hx hlive => ?_) ?_
  · split <;> exact ⟨rfl, rfl, rfl, rfl, rfl, rfl, rfl⟩
  · have coherent := h.records x hx
    split
    next same =>
      obtain rfl := h.eq_of_id hx ht same
      exact ⟨coherent.id, below.le, coherent.requested, le_rfl,
        fun hlive => ⟨below, (coherent.live hlive).2⟩, coherent.opened, coherent.waiting,
        fun closed => absurd (opened.symm.trans closed) (by simp)⟩
    next => exact coherent
  · rw [loc_keepPartial]
    split
    next here => rw [here]
    next => rfl
  · simpa using h.covered x hx hlive
  · simp

/-- The CONFIRM rule on an OPEN task, with a quantity that its remaining one allows (R79, R80). -/
theorem applyConfirm (h : s.StoreCore) (ht : t ∈ s.tasks) (opened : t.state = .opened) {offered : Nat}
    (allowed : offered ≤ t.remaining) : (s.applyConfirm t offered).StoreCore := by
  have below := ((h.records t ht).live (Task.live_of_opened opened)).1
  unfold Task.remaining at allowed
  obtain ⟨full, case⟩ | ⟨part, rfl, case⟩ | ⟨part, nonzero, -, case⟩ | ⟨part, nonzero, -, case⟩ :=
    s.applyConfirm_cases t offered
  all_goals
    rw [case]
    unfold Task.remaining at *
  · exact h.closeTask ht opened (by omega) (by simp; omega)
  · exact h.closeTask ht opened (by omega) (by simp; omega)
  · exact h.closeTask ht opened (by omega) (by simp; omega)
  · exact h.keepPartial ht opened (by unfold Task.remaining; omega)

end State.StoreCore

/-! ### The held confirmations of other sessions -/

/-- A record that is OPEN and of another slot stays as it is under the CONFIRM rule. -/
theorem State.StoreCore.mem_applyConfirm {s : State} (h : s.StoreCore) {t x : Task} (ht : t ∈ s.tasks)
    (hx : x ∈ s.tasks) (opened : x.state = .opened) (other : x.slot ≠ t.slot) (offered : Nat) :
    x ∈ (s.applyConfirm t offered).tasks := by
  have x_not_t : x.id ≠ t.id := fun same => other (h.eq_of_id hx ht same ▸ rfl)
  have not_succ : t.succ ≠ some x.id := fun is_succ => by
    obtain ⟨u, hu, same, links⟩ := h.linked.succs t ht _ is_succ
    obtain rfl := h.eq_of_id hu hx same
    exact other links.2.2.1.symm
  have closes (o : TaskOutcome) (picked : Nat) : x ∈ (s.closeTask t o picked).tasks := by
    rw [h.tasks_closeTask ht]
    exact List.mem_map.2 ⟨x, hx, by rw [Task.afterClosure, if_neg x_not_t, if_neg not_succ]⟩
  obtain ⟨-, case⟩ | ⟨-, -, case⟩ | ⟨-, -, -, case⟩ | ⟨-, -, -, case⟩ := s.applyConfirm_cases t offered
  all_goals rw [case]
  · exact closes _ _
  · exact closes _ _
  · exact closes _ _
  · rw [tasks_keepPartial]
    exact List.mem_map.2 ⟨x, hx, if_neg x_not_t⟩

theorem State.StoreCore.heldOpen_applyConfirm {s : State} (h : s.StoreCore) {t : Task} (ht : t ∈ s.tasks) {i : Fin 8}
    (other : i ≠ t.slot) (held : s.HeldOpen i) (offered : Nat) : (s.applyConfirm t offered).HeldOpen i := by
  intro e he
  obtain ⟨x, hx, same, opened, rfl⟩ := held e (by simpa using he)
  exact ⟨x, h.mem_applyConfirm ht hx opened other offered, same, opened, rfl⟩

end Sys2Proof.Machine
end

section
/-! Freeing tasks keeps the task store in agreement: the splice of a withdrawal, the cascade, the close of a session (R17, R35 to
R37). -/

namespace Sys2Proof.Machine

open Sys2Proof.Claims

/-- The records that stay when the tasks of a list are freed. -/
def staysBeside (freed : List Task) (x : Task) : Bool := !freed.any fun t => t.id == x.id

theorem staysBeside_iff {freed : List Task} {x : Task} : staysBeside freed x = true ↔ ∀ t ∈ freed, t.id ≠ x.id := by
  simp [staysBeside]

namespace State.StoreCore

variable {s u : State}

/-- A record of the store stays exactly if it is not among the freed ones. -/
theorem staysBeside_iff (h : s.StoreCore) {freed : List Task} (stored : ∀ t ∈ freed, t ∈ s.tasks) {x : Task} (hx : x ∈ s.tasks) :
    staysBeside freed x = true ↔ x ∉ freed := by
  rw [Machine.staysBeside_iff]
  exact ⟨fun apart listed => apart x listed rfl, fun absent t ht same => absent (h.eq_of_id (stored t ht) hx same ▸ ht)⟩

/-- Freeing tasks, after links around them were changed by `g`, keeps the store in agreement, where the chains that stay are
linked (R37). -/
theorem free (h : s.StoreCore) {freed : List Task} (stored : ∀ t ∈ freed, t ∈ s.tasks) (g : Task → Task)
    (tasks : u.tasks = s.tasks.map g) (lists : ∀ l, (u.loc l).tasks = (s.loc l).tasks) (sessions : ∀ i, u.session i = s.session i)
    (closures : u.closures = s.closures)
    (same : ∀ x, (g x).id = x.id ∧ (g x).slot = x.slot ∧ (g x).loc = x.loc ∧ (g x).closure = x.closure)
    (records : ∀ x ∈ s.tasks, (g x).Coherent ∧ (g x).live = x.live)
    (linked : Linked ((s.tasks.filter (staysBeside freed)).map g)) : (freed.foldl State.freeTask u).StoreCore := by
  obtain ⟨freed_tasks, freed_locs, freed_sessions⟩ := u.freeTasks_spec freed
  have tasks' : (freed.foldl State.freeTask u).tasks = (s.tasks.filter (staysBeside freed)).map g := by
    rw [freed_tasks, tasks, List.filter_map]
    congr 1
    refine List.filter_congr fun x _ => ?_
    simp [staysBeside, (same x).1]
  refine h.transform (staysBeside freed) g 0 tasks' (fun x => ⟨(same x).1, (same x).2.1, (same x).2.2.1⟩)
    (fun x hx _ => (records x hx).1) (tasks' ▸ linked) (fun x hx live => (records x hx).2 ▸ live) (fun l => ?_)
    (fun x hx live => ?_) (fun x hx _ live => ?_) (by simp [closures]) (fun x _ n hn => .inl ((same x).2.2.2 ▸ hn))
  · rw [freed_locs, ← lists]
    exact List.filter_sublist
  · have there : x.id ∈ (s.loc x.loc).tasks := (h.listed _ _).2 ⟨x, hx, rfl, live, rfl⟩
    rw [freed_locs, (records x hx).2, h.staysBeside_iff stored hx]
    simp only [lists, List.mem_filter, there, true_and, live, and_true]
    simp only [Bool.not_eq_true', List.any_eq_false, Bool.and_eq_true, beq_iff_eq, not_and]
    refine ⟨fun apart listed => apart x listed rfl rfl, fun absent t ht same_id => ?_⟩
    exact absurd (h.eq_of_id (stored t ht) hx same_id ▸ ht) absent
  · rw [freed_sessions, sessions]
    exact h.covered x hx ((records x hx).2 ▸ live)

/-- The held confirmations that stay after a freeing name tasks that stay (R13, R37). -/
theorem heldOpen_free (h : s.StoreCore) {freed : List Task} (stored : ∀ t ∈ freed, t ∈ s.tasks) (g : Task → Task)
    (tasks : u.tasks = s.tasks.map g) (sessions : ∀ i, u.session i = s.session i)
    (same : ∀ x, (g x).id = x.id ∧ (g x).slot = x.slot) (opened : ∀ x, x.state = .opened → (g x).state = .opened) {i : Fin 8}
    (held : s.HeldOpen i) : (freed.foldl State.freeTask u).HeldOpen i := by
  obtain ⟨freed_tasks, -, freed_sessions⟩ := u.freeTasks_spec freed
  intro e he
  rw [freed_sessions, sessions] at he
  obtain ⟨he, apart⟩ := List.mem_filter.1 he
  obtain ⟨x, hx, names, state, slot⟩ := held e he
  refine ⟨g x, ?_, (same x).1.trans names, opened x state, (same x).2.trans slot⟩
  rw [freed_tasks, tasks]
  refine List.mem_filter.2 ⟨List.mem_map_of_mem hx, ?_⟩
  simp only [Bool.not_eq_true', List.any_eq_false, Bool.and_eq_true, beq_iff_eq, not_and] at apart ⊢
  rw [(same x).1]
  intro t ht same_id
  exact apart t ht (same_id.trans names) (h.eq_of_id (stored t ht) hx same_id ▸ slot)

end State.StoreCore

/-! ### The splice of a withdrawal (R35) -/

/-- What the withdrawal of `t` without cascade makes of another record. -/
def Task.afterSplice (t x : Task) : Task :=
  if t.pred = some x.id then { x with succ := t.succ }
  else if t.succ = some x.id then
    (if t.pred = none then { x with pred := none, state := .opened } else { x with pred := t.pred })
  else x

theorem Task.afterSplice_keys (t x : Task) :
    (t.afterSplice x).id = x.id ∧ (t.afterSplice x).slot = x.slot ∧ (t.afterSplice x).loc = x.loc ∧
      (t.afterSplice x).closure = x.closure := by
  unfold Task.afterSplice
  repeat' split
  all_goals exact ⟨rfl, rfl, rfl, rfl⟩

theorem Task.afterSplice_opened (t : Task) {x : Task} (h : x.state = .opened) : (t.afterSplice x).state = .opened := by
  unfold Task.afterSplice
  repeat' split
  all_goals first | exact h | rfl

/-- The tasks before and after one in a chain are different. -/
theorem Linked.pred_ne_succ {ts : List Task} (h : Linked ts) {t : Task} (ht : t ∈ ts) {p : Nat} (before : t.pred = some p) :
    t.succ ≠ some p := by
  obtain ⟨rank, ranked⟩ := h.acyclic
  obtain ⟨x, hx, rfl, links⟩ := h.preds t ht p before
  exact fun after => lt_asymm (ranked x hx t.id links.1) (ranked t ht x.id after)

theorem State.tasks_splice (s : State) {t : Task} (apart : ∀ p, t.pred = some p → t.succ ≠ some p) :
    (s.splice t).tasks = s.tasks.map t.afterSplice := by
  unfold State.splice
  cases before : t.pred with
  | none =>
    simp only [State.tasks_release]
    exact List.map_congr_left fun x _ => by simp only [Task.afterSplice, before, reduceCtorEq, if_false, if_true]
  | some p =>
    cases after : t.succ with
    | none =>
      simp only [State.tasks_updTask]
      refine List.map_congr_left fun x _ => ?_
      simp only [Task.afterSplice, before, after, reduceCtorEq, if_false, Option.some.injEq, eq_comm]
    | some q =>
      have other : q ≠ p := fun same => apart p before (after.trans (congrArg some same))
      simp only [State.tasks_updTask, List.map_map]
      refine List.map_congr_left fun x _ => ?_
      simp only [Function.comp_apply, Task.afterSplice, before, after, Option.some.injEq, reduceCtorEq, if_false]
      by_cases is_pred : x.id = p
      · have not_succ : x.id ≠ q := is_pred ▸ other.symm
        rw [if_pos is_pred, if_neg not_succ, if_pos is_pred.symm]
      · rw [if_neg is_pred, if_neg (Ne.symm is_pred)]
        simp only [eq_comm]

theorem Linked.afterSplice {ts : List Task} (h : Linked ts) (ids : (ts.map Task.id).Nodup) {t : Task} (ht : t ∈ ts) :
    Linked ((ts.filter (staysBeside [t])).map t.afterSplice) := by
  obtain ⟨rank, ranked⟩ := h.acyclic
  have unique {x y : Task} (hx : x ∈ ts) (hy : y ∈ ts) (same : x.id = y.id) : x = y := eq_of_id ids hx hy same
  have stays {x : Task} (other : x.id ≠ t.id) : staysBeside [t] x = true := by simpa [staysBeside] using other.symm
  have stayed {x : Task} (hx : x ∈ ts.filter (staysBeside [t])) : x ∈ ts ∧ x.id ≠ t.id := by
    obtain ⟨mem, kept⟩ := List.mem_filter.1 hx
    exact ⟨mem, fun same => by simp [staysBeside, same] at kept⟩
  have image {x : Task} (hx : x ∈ ts) (other : x.id ≠ t.id) :
      t.afterSplice x ∈ (ts.filter (staysBeside [t])).map t.afterSplice :=
    List.mem_map_of_mem (List.mem_filter.2 ⟨hx, stays other⟩)
  have keys (x : Task) := t.afterSplice_keys x
  have live {x : Task} (hx : x.live = true) : (t.afterSplice x).live = true := by
    unfold Task.afterSplice
    repeat' split
    all_goals first | exact hx | rfl
  have around {p q : Task} (hp : p ∈ ts) (hq : q ∈ ts) (before : t.pred = some p.id) (after : t.succ = some q.id) :
      q.id ≠ t.id ∧ (t.afterSplice q).pred = some p.id ∧ p.id ≠ t.id ∧ (t.afterSplice p).succ = some q.id := by
    have below := ranked t ht q.id after
    obtain ⟨p', hp', same, links⟩ := h.preds t ht p.id before
    obtain rfl := unique hp' hp same
    have above := ranked p' hp' t.id links.1
    refine ⟨fun same => lt_irrefl _ (same ▸ below), ?_, fun same => lt_irrefl _ (same ▸ above), ?_⟩
    · have not_pred : t.pred ≠ some q.id := fun is_pred => by
        rw [Option.some.inj (before.symm.trans is_pred)] at above
        exact lt_asymm above below
      rw [Task.afterSplice, if_neg not_pred, if_pos after, if_neg (by rw [before]; simp)]
      exact before
    · rw [Task.afterSplice, if_pos before]
      exact after
  refine ⟨fun x' hx' q hq => ?_, fun y' hy' p hp => ?_, ?_⟩
  · obtain ⟨x, hx, rfl⟩ := List.mem_map.1 hx'
    obtain ⟨mem, other⟩ := stayed hx
    by_cases is_pred : t.pred = some x.id
    · rw [Task.afterSplice, if_pos is_pred] at hq
      obtain ⟨y, hy, rfl, links⟩ := h.succs t ht q hq
      obtain ⟨x', hx', same, back⟩ := h.preds t ht x.id is_pred
      obtain rfl := unique hx' mem same
      obtain ⟨other_y, pred_y, -, succ_x⟩ := around mem hy is_pred hq
      refine ⟨_, image hy other_y, (keys y).1, ?_, ?_, ?_, live back.2.2.2.1, live links.2.2.2.2⟩
      · rw [succ_x, (keys y).1]
      · rw [pred_y, (keys x').1]
      · rw [(keys x').2.1, (keys y).2.1, back.2.2.1, links.2.2.1]
    · have succ_x : x.succ = some q := by
        unfold Task.afterSplice at hq
        rw [if_neg is_pred] at hq
        split at hq
        · split at hq <;> exact hq
        · exact hq
      obtain ⟨y, hy, rfl, links⟩ := h.succs x mem q succ_x
      have other_y : y.id ≠ t.id := fun same => is_pred (unique hy ht same ▸ links.2.1)
      have not_succ : t.succ ≠ some y.id := fun is_succ => by
        obtain ⟨z, hz, same, back⟩ := h.succs t ht _ is_succ
        obtain rfl := unique hz hy same
        exact other (Option.some.inj (links.2.1.symm.trans back.2.1))
      refine ⟨_, image hy other_y, (keys y).1, ?_, ?_, ?_, live links.2.2.2.1, live links.2.2.2.2⟩
      · rw [hq, (keys y).1]
      · rw [Task.afterSplice, (keys x).1, if_neg not_succ]
        split <;> exact links.2.1
      · rw [(keys x).2.1, (keys y).2.1, links.2.2.1]
  · obtain ⟨y, hy, rfl⟩ := List.mem_map.1 hy'
    obtain ⟨mem, other⟩ := stayed hy
    by_cases is_succ : t.pred ≠ some y.id ∧ t.succ = some y.id
    · have before : t.pred = some p := by
        rw [Task.afterSplice, if_neg is_succ.1, if_pos is_succ.2] at hp
        split at hp
        · exact nomatch hp
        · exact hp
      obtain ⟨x, hx, rfl, links⟩ := h.preds t ht p before
      obtain ⟨y', hy', same, forth⟩ := h.succs t ht y.id is_succ.2
      obtain rfl := unique hy' mem same
      obtain ⟨-, pred_y, other_x, succ_x⟩ := around hx mem before is_succ.2
      refine ⟨_, image hx other_x, (keys x).1, ?_, ?_, ?_, live links.2.2.2.1, live forth.2.2.2.2⟩
      · rw [succ_x, (keys y').1]
      · rw [pred_y, (keys x).1]
      · rw [(keys x).2.1, (keys y').2.1, links.2.2.1, forth.2.2.1]
    · have pred_y : y.pred = some p := by
        unfold Task.afterSplice at hp
        split at hp
        · exact hp
        next not_pred =>
          rw [if_neg fun after => is_succ ⟨not_pred, after⟩] at hp
          exact hp
      obtain ⟨x, hx, rfl, links⟩ := h.preds y mem p pred_y
      have other_x : x.id ≠ t.id := fun same => by
        obtain rfl := unique hx ht same
        have below := ranked x hx y.id links.1
        refine is_succ ⟨fun is_pred => ?_, links.1⟩
        obtain ⟨z, hz, same, back⟩ := h.preds x hx _ is_pred
        have above := ranked z hz x.id back.1
        rw [same] at above
        exact lt_asymm above below
      have not_pred : t.pred ≠ some x.id := fun is_pred => by
        obtain ⟨z, hz, same, back⟩ := h.preds t ht _ is_pred
        obtain rfl := unique hz hx same
        exact other (Option.some.inj (links.1.symm.trans back.1))
      refine ⟨_, image hx other_x, (keys x).1, ?_, ?_, ?_, live links.2.2.2.1, live links.2.2.2.2⟩
      · rw [Task.afterSplice, (keys y).1, if_neg not_pred]
        repeat' split
        all_goals exact links.1
      · rw [hp, (keys x).1]
      · rw [(keys x).2.1, (keys y).2.1, links.2.2.1]
  · refine ⟨rank, fun x' hx' q hq => ?_⟩
    obtain ⟨x, hx, rfl⟩ := List.mem_map.1 hx'
    obtain ⟨mem, -⟩ := stayed hx
    rw [(keys x).1]
    unfold Task.afterSplice at hq
    split at hq
    next is_pred =>
      obtain ⟨x', hx', same, links⟩ := h.preds t ht x.id is_pred
      obtain rfl := unique hx' mem same
      exact (ranked x' mem t.id links.1).trans (ranked t ht q hq)
    next =>
      refine ranked x mem q ?_
      split at hq
      · split at hq <;> exact hq
      · exact hq

namespace State.StoreCore

variable {s : State} {t : Task}

theorem afterSplice_records (h : s.StoreCore) (ht : t ∈ s.tasks) {x : Task} (hx : x ∈ s.tasks) :
    (t.afterSplice x).Coherent ∧ (t.afterSplice x).live = x.live := by
  have coherent := h.records x hx
  unfold Task.afterSplice
  split
  next is_pred =>
    obtain ⟨x', hx', same, links⟩ := h.linked.preds t ht x.id is_pred
    obtain rfl := h.eq_of_id hx' hx same
    exact ⟨⟨coherent.id, coherent.picked, coherent.requested, coherent.offered, coherent.live, coherent.opened,
      coherent.waiting, fun closed => absurd closed (Task.live_iff.1 links.2.2.2.1)⟩, rfl⟩
  next =>
    split
    next is_succ =>
      obtain ⟨x', hx', same, links⟩ := h.linked.succs t ht x.id is_succ
      obtain rfl := h.eq_of_id hx' hx same
      have waits := h.waiting_of_succ hx' links
      have live := Task.live_of_waiting waits
      split
      · exact ⟨⟨coherent.id, coherent.picked, coherent.requested, coherent.offered, fun _ => coherent.live live,
          fun _ => rfl, fun waiting => (nomatch waiting), fun closed => (nomatch closed)⟩, live.symm ▸ rfl⟩
      next has_pred =>
        exact ⟨⟨coherent.id, coherent.picked, coherent.requested, coherent.offered, coherent.live,
          fun opened => absurd (waits.symm.trans opened) (by simp), fun _ => Option.isSome_iff_ne_none.2 has_pred,
          fun closed => absurd (waits.symm.trans closed) (by simp)⟩, rfl⟩
    next => exact ⟨coherent, rfl⟩

/-- A withdrawal without cascade keeps the store in agreement (R35, R37). -/
theorem withdrawOne (h : s.StoreCore) (ht : t ∈ s.tasks) : (s.withdrawOne t).StoreCore :=
  h.free (freed := [t]) (u := s.splice t) (by simpa using ht) t.afterSplice
    (s.tasks_splice fun _ => h.linked.pred_ne_succ ht) (by simp) (by simp) (by simp) t.afterSplice_keys
    (fun _ => h.afterSplice_records ht) (h.linked.afterSplice h.ids ht)

theorem heldOpen_withdrawOne (h : s.StoreCore) (ht : t ∈ s.tasks) {i : Fin 8} (held : s.HeldOpen i) : (s.withdrawOne t).HeldOpen i :=
  h.heldOpen_free (freed := [t]) (u := s.splice t) (by simpa using ht) t.afterSplice
    (s.tasks_splice fun _ => h.linked.pred_ne_succ ht) (by simp)
    (fun x => ⟨(t.afterSplice_keys x).1, (t.afterSplice_keys x).2.1⟩) (fun _ => t.afterSplice_opened) held

end State.StoreCore

end Sys2Proof.Machine
end

section
/-! The chain that a cascade frees is the tasks reached by successor links, and freeing it keeps the store in agreement (R36). -/

namespace Sys2Proof.Machine

open Sys2Proof.Claims

/-! ### Successor links -/

theorem reaches_trans_succ {s : State} {id r : Nat} (reach : Reaches s id r) {x : Task} (found : s.findTask r = some x) {q : Nat}
    (succ : x.succ = some q) : Reaches s id q := by
  induction reach with
  | here id => exact .next id q q x found succ (.here q)
  | next id p r t found_id succ_id _ ih => exact .next id p q t found_id succ_id (ih found)

/-- A task reached from another one is reached over its predecessor. -/
theorem reaches_last {s : State} {id r : Nat} (reach : Reaches s id r) :
    r = id ∨ ∃ z, Reaches s id z.id ∧ s.findTask z.id = some z ∧ z.succ = some r := by
  induction reach with
  | here id => exact .inl rfl
  | next id q r t found succ _ ih =>
    have same_id := (State.findTask_mem found).2
    refine .inr ?_
    obtain rfl | ⟨z, reach_z, found_z, succ_z⟩ := ih
    · exact ⟨t, same_id ▸ .here _, by rw [same_id, found], succ⟩
    · exact ⟨z, .next id q z.id t found succ reach_z, found_z, succ_z⟩

/-! ### The chain with fuel -/

namespace State

variable (s : State)

theorem chainFrom_step {fuel id : Nat} {t : Task} (found : s.findTask id = some t) :
    s.chainFrom (fuel + 1) id = t :: (t.succ.map (s.chainFrom fuel)).getD [] := by
  rw [State.chainFrom, found]
  simp only []
  cases t.succ <;> rfl

theorem chainFrom_missing {fuel id : Nat} (missing : s.findTask id = none) : s.chainFrom fuel id = [] := by
  cases fuel with
  | zero => rfl
  | succ fuel => rw [State.chainFrom, missing]

theorem chainFrom_reached (fuel id : Nat) : ∀ x ∈ s.chainFrom fuel id, s.findTask x.id = some x ∧ Reaches s id x.id := by
  induction fuel generalizing id with
  | zero => exact fun x hx => nomatch hx
  | succ fuel ih =>
    cases found : s.findTask id with
    | none => rw [s.chainFrom_missing found]; exact fun x hx => nomatch hx
    | some t =>
      have same_id := (findTask_mem found).2
      rw [s.chainFrom_step found]
      intro x hx
      obtain rfl | later := List.mem_cons.1 hx
      · exact ⟨by rw [same_id, found], same_id ▸ .here _⟩
      · cases succ : t.succ with
        | none => rw [succ] at later; exact nomatch later
        | some q =>
          rw [succ] at later
          obtain ⟨found_x, reach⟩ := ih q x later
          exact ⟨found_x, .next id q x.id t found succ reach⟩

/-- Ranks rise along the chain. -/
theorem chainFrom_ranked {rank : Nat → Nat} (ranked : ∀ t ∈ s.tasks, ∀ q, t.succ = some q → rank t.id < rank q) (fuel id : Nat) :
    (s.chainFrom fuel id).Pairwise (fun x y => rank x.id < rank y.id) ∧ ∀ x ∈ s.chainFrom fuel id, rank id ≤ rank x.id := by
  induction fuel generalizing id with
  | zero => exact ⟨.nil, fun x hx => nomatch hx⟩
  | succ fuel ih =>
    cases found : s.findTask id with
    | none => rw [s.chainFrom_missing found]; exact ⟨.nil, fun x hx => nomatch hx⟩
    | some t =>
      obtain ⟨mem, same_id⟩ := findTask_mem found
      rw [s.chainFrom_step found]
      cases succ : t.succ with
      | none => exact ⟨List.pairwise_singleton _ _, fun x hx => by rw [List.mem_singleton.1 hx, same_id]⟩
      | some q =>
        obtain ⟨rises, from_q⟩ := ih q
        have step : rank id < rank q := same_id ▸ ranked t mem q succ
        refine ⟨List.pairwise_cons.2 ⟨fun x hx => same_id ▸ step.trans_le (from_q x hx), rises⟩, fun x hx => ?_⟩
        obtain rfl | later := List.mem_cons.1 hx
        · rw [same_id]
        · exact step.le.trans (from_q x later)

/-- A chain that does not use all its fuel goes on to its end. -/
theorem chainFrom_closed {fuel id : Nat} (short : (s.chainFrom fuel id).length < fuel) :
    ∀ x ∈ s.chainFrom fuel id, ∀ q y, x.succ = some q → s.findTask q = some y → y ∈ s.chainFrom fuel id := by
  induction fuel generalizing id with
  | zero => exact fun x hx => nomatch hx
  | succ fuel ih =>
    cases found : s.findTask id with
    | none => rw [s.chainFrom_missing found]; exact fun x hx => nomatch hx
    | some t =>
      rw [s.chainFrom_step found] at short ⊢
      intro x hx q y succ_x found_y
      refine List.mem_cons_of_mem t ?_
      obtain rfl | later := List.mem_cons.1 hx
      · rw [succ_x] at short ⊢
        cases fuel with
        | zero => exact absurd short (by simp)
        | succ fuel =>
          change y ∈ s.chainFrom (fuel + 1) q
          rw [s.chainFrom_step found_y]
          exact List.mem_cons_self
      · cases succ : t.succ with
        | none => rw [succ] at later; exact nomatch later
        | some p =>
          rw [succ] at later short
          exact ih (Nat.lt_of_succ_lt_succ short) x later q y succ_x found_y

/-- More fuel than the chain has records changes nothing. -/
theorem chainFrom_enough {fuel id : Nat} (short : (s.chainFrom (fuel + 1) id).length ≤ fuel) :
    s.chainFrom fuel id = s.chainFrom (fuel + 1) id := by
  induction fuel generalizing id with
  | zero => exact (List.eq_nil_of_length_eq_zero (Nat.le_zero.1 short)).symm
  | succ fuel ih =>
    cases found : s.findTask id with
    | none => rw [s.chainFrom_missing found, s.chainFrom_missing found]
    | some t =>
      rw [s.chainFrom_step found] at short ⊢
      rw [s.chainFrom_step found]
      cases succ : t.succ with
      | none => rfl
      | some q =>
        rw [succ] at short
        exact congrArg (t :: ·) (ih (Nat.le_of_succ_le_succ short))

end State

/-! ### The chain in a store in agreement -/

namespace State.StoreCore

variable {s : State} {t : Task}

theorem chainFrom_ids (h : s.StoreCore) (fuel id : Nat) : ((s.chainFrom fuel id).map Task.id).Nodup := by
  obtain ⟨rank, ranked⟩ := h.linked.acyclic
  rw [List.Nodup, List.pairwise_map]
  exact (s.chainFrom_ranked ranked fuel id).1.imp fun rises same => by rw [same] at rises; exact lt_irrefl _ rises

theorem chainFrom_stored (fuel id : Nat) : ∀ x ∈ s.chainFrom fuel id, x ∈ s.tasks :=
  fun x hx => (findTask_mem (s.chainFrom_reached fuel id x hx).1).1

theorem chainFrom_length (h : s.StoreCore) (fuel id : Nat) : (s.chainFrom fuel id).length ≤ 512 :=
  (List.Subperm.length_le (List.subperm_of_subset (h.chainFrom_ids fuel id).of_map (chainFrom_stored fuel id))).trans h.room

/-- The chain of a cascade holds exactly the stored tasks that are reached by successor links. -/
theorem mem_chainFrom (h : s.StoreCore) {id : Nat} {x : Task} :
    x ∈ s.chainFrom 512 id ↔ x ∈ s.tasks ∧ Reaches s id x.id := by
  have enough : s.chainFrom 512 id = s.chainFrom 513 id := s.chainFrom_enough (h.chainFrom_length 513 id)
  have closed := s.chainFrom_closed (fuel := 513) (id := id) (Nat.lt_succ_of_le (h.chainFrom_length 513 id))
  rw [enough]
  constructor
  · intro hx
    obtain ⟨found, reach⟩ := s.chainFrom_reached 513 id x hx
    exact ⟨(findTask_mem found).1, reach⟩
  · rintro ⟨hx, reach⟩
    have onward (j r : Nat) (reach : Reaches s j r) : ∀ z ∈ s.chainFrom 513 id, z.id = j → ∀ y ∈ s.tasks, y.id = r →
        y ∈ s.chainFrom 513 id := by
      induction reach with
      | here j => exact fun z hz same y hy same' =>
          h.eq_of_id (chainFrom_stored _ _ z hz) hy (same.trans same'.symm) ▸ hz
      | next j q r w found succ _ ih =>
        intro z hz same y hy same'
        have z_is_w : z = w := Option.some.inj ((s.chainFrom_reached 513 id z hz).1.symm.trans (same ▸ found))
        obtain ⟨v, hv, rfl, -⟩ := h.linked.succs w (findTask_mem found).1 q succ
        exact ih v (closed z hz v.id v (z_is_w ▸ succ) (h.stored hv)) rfl y hy same'
    have start : ∃ z ∈ s.chainFrom 513 id, z.id = id := by
      have found : ∃ z, s.findTask id = some z := by
        cases reach with
        | here => exact ⟨x, h.stored hx⟩
        | next _ q r w found _ _ => exact ⟨w, found⟩
      obtain ⟨z, hz⟩ := found
      exact ⟨z, by rw [s.chainFrom_step hz]; exact List.mem_cons_self, (findTask_mem hz).2⟩
    obtain ⟨z, hz, same⟩ := start
    exact onward id x.id reach z hz same x hx rfl

end State.StoreCore

/-! ### The cascade (R36) -/

/-- What the withdrawal of `t` with cascade makes of a record that stays. -/
def Task.afterCut (t x : Task) : Task := if t.pred = some x.id then { x with succ := none } else x

theorem Task.afterCut_keys (t x : Task) :
    (t.afterCut x).id = x.id ∧ (t.afterCut x).slot = x.slot ∧ (t.afterCut x).loc = x.loc ∧ (t.afterCut x).closure = x.closure ∧
      (t.afterCut x).state = x.state ∧ (t.afterCut x).pred = x.pred := by
  unfold Task.afterCut
  split <;> exact ⟨rfl, rfl, rfl, rfl, rfl, rfl⟩

theorem State.tasks_cutBefore (s : State) (t : Task) : (s.cutBefore t).tasks = s.tasks.map t.afterCut := by
  unfold State.cutBefore
  cases before : t.pred with
  | none =>
    refine (List.map_id _).symm.trans (List.map_congr_left fun x _ => ?_)
    simp [Task.afterCut, before]
  | some p =>
    simp only [State.tasks_updTask]
    refine List.map_congr_left fun x _ => ?_
    simp only [Task.afterCut, before, Option.some.injEq, eq_comm]

namespace State.StoreCore

variable {s : State} {t : Task}

theorem afterCut_records (h : s.StoreCore) {x : Task} (hx : x ∈ s.tasks) :
    (t.afterCut x).Coherent ∧ (t.afterCut x).live = x.live := by
  have coherent := h.records x hx
  unfold Task.afterCut
  split
  · exact ⟨⟨coherent.id, coherent.picked, coherent.requested, coherent.offered, coherent.live, coherent.opened,
      coherent.waiting, fun closed => by
        obtain ⟨offered, pred, -, outcome⟩ := coherent.closed closed
        exact ⟨offered, pred, rfl, outcome⟩⟩, rfl⟩
  · exact ⟨coherent, rfl⟩

theorem cut_linked (h : s.StoreCore) (ht : t ∈ s.tasks) :
    Linked ((s.tasks.filter (staysBeside (s.chainFrom 512 t.id))).map t.afterCut) := by
  have stays {x : Task} (hx : x ∈ s.tasks) : staysBeside (s.chainFrom 512 t.id) x = true ↔ ¬ Reaches s t.id x.id := by
    rw [h.staysBeside_iff (chainFrom_stored _ _) hx, h.mem_chainFrom]
    exact not_congr ⟨fun reach => reach.2, fun reach => ⟨hx, reach⟩⟩
  have same_live (x : Task) : (t.afterCut x).live = x.live := by simp [Task.live, (t.afterCut_keys x).2.2.2.2.1]
  refine h.linked.cut _ _ (fun x => ⟨(t.afterCut_keys x).1, (t.afterCut_keys x).2.1⟩) (fun x hx q hq => ?_) (fun y hy p hp => ?_)
    (fun x hx y hy links => ?_)
  · have before : x.succ = some q := by
      unfold Task.afterCut at hq
      split at hq
      · exact nomatch hq
      · exact hq
    obtain ⟨_, _, _, links⟩ := h.linked.succs x hx q before
    exact ⟨before, (same_live x).trans links.2.2.2.1⟩
  · rw [(t.afterCut_keys y).2.2.2.2.2] at hp
    obtain ⟨_, _, _, links⟩ := h.linked.preds y hy p hp
    exact ⟨hp, (same_live y).trans links.2.2.2.2⟩
  · rw [stays hx, stays hy, (t.afterCut_keys y).2.2.2.2.2]
    have pred_iff : t.pred = some x.id ↔ y = t := by
      constructor
      · intro is_pred
        obtain ⟨z, hz, same, back⟩ := h.linked.preds t ht _ is_pred
        obtain rfl := h.eq_of_id hz hx same
        exact h.eq_of_id hy ht (Option.some.inj (links.1.symm.trans back.1))
      · rintro rfl
        exact links.2.1
    have succ_iff : (t.afterCut x).succ = some y.id ↔ y ≠ t := by
      unfold Task.afterCut
      split
      next is_pred => simp [pred_iff.1 is_pred]
      next not_pred =>
        have other : y ≠ t := fun same => not_pred (pred_iff.2 same)
        simp [links.1, other]
    rw [succ_iff]
    constructor
    · rintro ⟨apart, other⟩
      refine ⟨fun reach => ?_, links.2.1⟩
      obtain same | ⟨z, reach_z, found_z, succ_z⟩ := reaches_last reach
      · exact other (h.eq_of_id hy ht same)
      · obtain ⟨w, hw, same, back⟩ := h.linked.succs z (findTask_mem found_z).1 _ succ_z
        obtain rfl := h.eq_of_id hw hy same
        have z_is_x : z.id = x.id := Option.some.inj (back.2.1.symm.trans links.2.1)
        exact apart (z_is_x ▸ reach_z)
    · rintro ⟨apart, -⟩
      exact ⟨fun reach => apart (reaches_trans_succ reach (h.stored hx) links.1), fun same => apart (same ▸ .here _)⟩

theorem withdrawChain (h : s.StoreCore) (ht : t ∈ s.tasks) :
    ((s.chainFrom 512 t.id).foldl State.freeTask (s.cutBefore t)).StoreCore :=
  h.free (chainFrom_stored _ _) t.afterCut (s.tasks_cutBefore t) (by simp) (by simp) (by simp)
    (fun x => ⟨(t.afterCut_keys x).1, (t.afterCut_keys x).2.1, (t.afterCut_keys x).2.2.1, (t.afterCut_keys x).2.2.2.1⟩)
    (fun _ => h.afterCut_records) (h.cut_linked ht)

theorem heldOpen_withdrawChain (h : s.StoreCore) {i : Fin 8} (held : s.HeldOpen i) :
    ((s.chainFrom 512 t.id).foldl State.freeTask (s.cutBefore t)).HeldOpen i :=
  h.heldOpen_free (chainFrom_stored _ _) t.afterCut (s.tasks_cutBefore t) (by simp)
    (fun x => ⟨(t.afterCut_keys x).1, (t.afterCut_keys x).2.1⟩) (fun x opened => (t.afterCut_keys x).2.2.2.2.1.trans opened) held

end State.StoreCore

end Sys2Proof.Machine
end

section
/-! Posting and dropping records, and the session table, in agreement with the store (R1 to R15, R28, R40). -/

namespace Sys2Proof.Machine

open Sys2Proof.Claims

/-! ### Posting (R28) -/

/-- What posting `t` behind its predecessor makes of a record. -/
def Task.linkedTo (t x : Task) : Task := if t.pred = some x.id then { x with succ := some t.id } else x

theorem Task.linkedTo_keys (t x : Task) :
    (t.linkedTo x).id = x.id ∧ (t.linkedTo x).slot = x.slot ∧ (t.linkedTo x).loc = x.loc ∧ (t.linkedTo x).closure = x.closure ∧
      (t.linkedTo x).state = x.state ∧ (t.linkedTo x).pred = x.pred ∧ (t.linkedTo x).live = x.live := by
  unfold Task.linkedTo
  split <;> exact ⟨rfl, rfl, rfl, rfl, rfl, rfl, rfl⟩

theorem State.tasks_placeTask (s : State) (t : Task) : (s.placeTask t).tasks = s.tasks.map t.linkedTo ++ [t] := by
  unfold State.placeTask
  cases before : t.pred with
  | none =>
    have same : s.tasks.map t.linkedTo = s.tasks := by
      refine (List.map_congr_left fun x _ => ?_).trans (List.map_id _)
      simp [Task.linkedTo, before]
    rw [same]
    rfl
  | some p =>
    have same : s.tasks.map t.linkedTo = s.tasks.map fun x => if x.id = p then { x with succ := some t.id } else x := by
      refine List.map_congr_left fun x _ => ?_
      simp only [Task.linkedTo, before, Option.some.injEq, eq_comm]
    rw [same]
    rfl

theorem State.loc_placeTask (s : State) (t : Task) (l : Loc) :
    (s.placeTask t).loc l = if l = t.loc then { s.loc l with tasks := (s.loc l).tasks ++ [t.id] } else s.loc l := by
  unfold State.placeTask
  cases t.pred <;>
  · simp only [State.loc_modLoc]
    split
    next here => rw [here]; rfl
    next => rfl

/-- A record that POST_TASK adds: OPEN without a predecessor, WAITING behind one of its session that has no successor (R27, R28). -/
structure State.Postable (s : State) (t : Task) : Prop where
  room : s.tasks.length < 512
  coherent : t.Coherent
  fresh : ∀ x ∈ s.tasks, x.id ≠ t.id
  live : t.live = true
  succ : t.succ = none
  listRoom : (s.loc t.loc).tasks.length < 8
  pred : ∀ p, t.pred = some p → ∃ x ∈ s.tasks, x.id = p ∧ x.slot = t.slot ∧ x.live = true ∧ x.succ = none
  covered : (s.session t.slot).state ≠ .free ∧ (s.session t.slot).covers t.loc = true

namespace State.StoreCore

variable {s u : State} {t : Task}

theorem placeTask_linked (h : s.StoreCore) (new : s.Postable t) : Linked (s.placeTask t).tasks := by
  rw [State.tasks_placeTask]
  have image {x : Task} (hx : x ∈ s.tasks) : t.linkedTo x ∈ s.tasks.map t.linkedTo ++ [t] :=
    List.mem_append_left _ (List.mem_map_of_mem hx)
  have keys (x : Task) := t.linkedTo_keys x
  have source {x : Task} (hx : x ∈ s.tasks) (is_pred : t.pred = some x.id) : x.slot = t.slot ∧ x.live = true ∧ x.succ = none := by
    obtain ⟨y, hy, same, facts⟩ := new.pred x.id is_pred
    exact h.eq_of_id hy hx same ▸ facts
  refine ⟨fun x' hx' q hq => ?_, fun y' hy' p hp => ?_, ?_⟩
  · obtain old | added := List.mem_append.1 hx'
    · obtain ⟨x, hx, rfl⟩ := List.mem_map.1 old
      unfold Task.linkedTo at hq
      split at hq
      next is_pred =>
        obtain ⟨slot, live, -⟩ := source hx is_pred
        refine ⟨t, List.mem_append_right _ (List.mem_singleton_self t), Option.some.inj hq, ?_, ?_, ?_, ?_, new.live⟩
        · rw [Task.linkedTo, if_pos is_pred]
        · rw [(keys x).1, is_pred]
        · rw [(keys x).2.1, slot]
        · rw [(keys x).2.2.2.2.2.2, live]
      next not_pred =>
        obtain ⟨y, hy, rfl, links⟩ := h.linked.succs x hx q hq
        refine ⟨_, image hy, (keys y).1, ?_, ?_, ?_, ?_, ?_⟩
        · rw [Task.linkedTo, if_neg not_pred, (keys y).1, hq]
        · rw [(keys y).2.2.2.2.2.1, (keys x).1, links.2.1]
        · rw [(keys x).2.1, (keys y).2.1, links.2.2.1]
        · rw [(keys x).2.2.2.2.2.2, links.2.2.2.1]
        · rw [(keys y).2.2.2.2.2.2, links.2.2.2.2]
    · obtain rfl := List.mem_singleton.1 added
      exact absurd (new.succ.symm.trans hq) (by simp)
  · obtain old | added := List.mem_append.1 hy'
    · obtain ⟨y, hy, rfl⟩ := List.mem_map.1 old
      rw [(keys y).2.2.2.2.2.1] at hp
      obtain ⟨x, hx, rfl, links⟩ := h.linked.preds y hy p hp
      have not_pred : t.pred ≠ some x.id := fun is_pred =>
        nomatch (source hx is_pred).2.2.symm.trans links.1
      refine ⟨_, image hx, (keys x).1, ?_, ?_, ?_, ?_, ?_⟩
      · rw [Task.linkedTo, if_neg not_pred, (keys y).1, links.1]
      · rw [(keys y).2.2.2.2.2.1, (keys x).1, hp]
      · rw [(keys x).2.1, (keys y).2.1, links.2.2.1]
      · rw [(keys x).2.2.2.2.2.2, links.2.2.2.1]
      · rw [(keys y).2.2.2.2.2.2, links.2.2.2.2]
    · obtain rfl := List.mem_singleton.1 added
      obtain ⟨x, hx, rfl, slot, live, -⟩ := new.pred p hp
      refine ⟨_, image hx, (keys x).1, ?_, ?_, ?_, ?_, new.live⟩
      · rw [Task.linkedTo, if_pos hp]
      · rw [(keys x).1, hp]
      · rw [(keys x).2.1, slot]
      · rw [(keys x).2.2.2.2.2.2, live]
  · obtain ⟨rank, ranked⟩ := h.linked.acyclic
    refine ⟨fun n => if n = t.id then rank (t.pred.getD 0) + 1 else rank n, fun x' hx' q hq => ?_⟩
    obtain old | added := List.mem_append.1 hx'
    · obtain ⟨x, hx, rfl⟩ := List.mem_map.1 old
      simp only [(keys x).1]
      rw [if_neg (new.fresh x hx)]
      unfold Task.linkedTo at hq
      split at hq
      next is_pred =>
        rw [if_pos (Option.some.inj hq).symm, is_pred]
        exact Nat.lt_succ_self _
      next =>
        obtain ⟨y, hy, rfl, -⟩ := h.linked.succs x hx q hq
        rw [if_neg (new.fresh y hy)]
        exact ranked x hx y.id hq
    · obtain rfl := List.mem_singleton.1 added
      exact absurd (new.succ.symm.trans hq) (by simp)

theorem placeTask (h : s.StoreCore) (new : s.Postable t) : (s.placeTask t).StoreCore := by
  have keys (x : Task) := t.linkedTo_keys x
  have not_closed : t.closure = none := (new.coherent.live new.live).2.2
  have tasks := s.tasks_placeTask t
  have mem {y : Task} (hy : y ∈ (s.placeTask t).tasks) : (∃ x ∈ s.tasks, t.linkedTo x = y) ∨ y = t := by
    rw [tasks] at hy
    obtain old | added := List.mem_append.1 hy
    · exact .inl (List.mem_map.1 old)
    · exact .inr (List.mem_singleton.1 added)
  refine ⟨?_, ?_, fun y hy => ?_, h.placeTask_linked new, fun l => ?_, fun l id => ?_, fun y hy live => ?_, ?_, fun y hy n hn => ?_⟩
  · rw [tasks]
    simpa using new.room
  · have same_ids : (s.placeTask t).tasks.map Task.id = s.tasks.map Task.id ++ [t.id] := by
      rw [tasks, List.map_append, List.map_map]
      congr 1
      exact List.map_congr_left fun x _ => (keys x).1
    rw [same_ids]
    refine List.nodup_append.2 ⟨h.ids, List.nodup_singleton _, fun a ha b hb => ?_⟩
    obtain ⟨x, hx, rfl⟩ := List.mem_map.1 ha
    rw [List.mem_singleton.1 hb]
    exact new.fresh x hx
  · obtain ⟨x, hx, rfl⟩ | rfl := mem hy
    · have coherent := h.records x hx
      unfold Task.linkedTo
      split
      next is_pred =>
        obtain ⟨x', hx', same, -, live, -⟩ := new.pred x.id is_pred
        obtain rfl := h.eq_of_id hx' hx same
        exact ⟨coherent.id, coherent.picked, coherent.requested, coherent.offered, coherent.live, coherent.opened,
          coherent.waiting, fun closed => absurd closed (Task.live_iff.1 live)⟩
      next => exact coherent
    · exact new.coherent
  · rw [State.loc_placeTask]
    split
    next here =>
      subst here
      refine ⟨by simpa using new.listRoom, List.nodup_append.2 ⟨(h.lists _).2, List.nodup_singleton _, fun a ha b hb => ?_⟩⟩
      obtain ⟨x, hx, rfl, -⟩ := (h.listed _ a).1 ha
      rw [List.mem_singleton.1 hb]
      exact new.fresh x hx
    next => exact h.lists l
  · have listed : id ∈ ((s.placeTask t).loc l).tasks ↔ id ∈ (s.loc l).tasks ∨ (l = t.loc ∧ id = t.id) := by
      rw [State.loc_placeTask]
      split <;> simp [*]
    rw [listed, h.listed, tasks]
    constructor
    · rintro (⟨x, hx, rfl, live, rfl⟩ | ⟨rfl, rfl⟩)
      · exact ⟨t.linkedTo x, List.mem_append_left _ (List.mem_map_of_mem hx), (keys x).1, (keys x).2.2.2.2.2.2.trans live,
          (keys x).2.2.1⟩
      · exact ⟨t, List.mem_append_right _ (List.mem_singleton_self t), rfl, new.live, rfl⟩
    · rintro ⟨y, hy, rfl, live, rfl⟩
      obtain ⟨x, hx, rfl⟩ | rfl := mem (tasks ▸ hy)
      · exact .inl ⟨x, hx, (keys x).1.symm, (keys x).2.2.2.2.2.2.symm.trans live, (keys x).2.2.1.symm⟩
      · exact .inr ⟨rfl, rfl⟩
  · obtain ⟨x, hx, rfl⟩ | rfl := mem hy
    · rw [(keys x).2.1, (keys x).2.2.1]
      simpa using h.covered x hx ((keys x).2.2.2.2.2.2.symm.trans live)
    · simpa using new.covered
  · have same_closures : (s.placeTask t).tasks.filterMap Task.closure = s.tasks.filterMap Task.closure := by
      rw [tasks, List.filterMap_append, List.filterMap_map, List.filterMap_cons, not_closed]
      simp only [List.filterMap_nil, List.append_nil]
      exact List.filterMap_congr fun x _ => (keys x).2.2.2.1
    rw [same_closures]
    exact h.closures.1
  · obtain ⟨x, hx, rfl⟩ | rfl := mem hy
    · rw [(keys x).2.2.2.1] at hn
      simpa using h.closures.2 x hx n hn
    · exact absurd (not_closed.symm.trans hn) (by simp)

/-! ### Dropping CLOSED records (R39, R40) -/

theorem filter_closed (h : s.StoreCore) (keep : Task → Bool) (tasks : u.tasks = s.tasks.filter keep)
    (closed : ∀ x ∈ s.tasks, keep x = false → x.state = .closed) (lists : ∀ l, (u.loc l).tasks = (s.loc l).tasks)
    (sessions : ∀ i, u.session i = s.session i) (closures : u.closures = s.closures) : u.StoreCore := by
  have kept_of_live {x : Task} (hx : x ∈ s.tasks) (live : x.live = true) : keep x = true := by
    by_contra dropped
    exact Task.live_iff.1 live (closed x hx (Bool.eq_false_iff.2 dropped))
  have linked : Linked u.tasks := tasks ▸ h.linked.filter keep fun x hx y hy links => by
    rw [kept_of_live hx links.2.2.2.1, kept_of_live hy links.2.2.2.2]
  refine h.transform keep id 0 (by rw [List.map_id, tasks]) (fun _ => ⟨rfl, rfl, rfl⟩) (fun x hx _ => h.records x hx) linked
    (fun _ _ => id) (fun l => lists l ▸ .refl _) (fun x hx live => ?_) (fun x hx _ live => sessions x.slot ▸ h.covered x hx live)
    closures.ge (fun _ _ _ => .inl)
  rw [lists, h.listed]
  exact ⟨fun _ => ⟨kept_of_live hx live, live⟩, fun _ => ⟨x, hx, rfl, live, rfl⟩⟩

end State.StoreCore

/-! ### Held confirmations -/

/-- Held confirmations stay on OPEN tasks of their slot where no confirmation is added and those tasks stay OPEN. -/
theorem State.HeldOpen.mono {s t : State} {i : Fin 8} (h : s.HeldOpen i)
    (pending : ∀ e ∈ (t.session i).pending, e ∈ (s.session i).pending)
    (tasks : ∀ x ∈ s.tasks, x.state = .opened → ∃ y ∈ t.tasks, y.id = x.id ∧ y.state = .opened ∧ y.slot = x.slot) :
    t.HeldOpen i := by
  intro e he
  obtain ⟨x, hx, names, opened, slot⟩ := h e (pending e he)
  obtain ⟨y, hy, id, opened', slot'⟩ := tasks x hx opened
  exact ⟨y, hy, id.trans names, opened', slot'.trans slot⟩

theorem State.heldOpen_of_nil {s : State} {i : Fin 8} (none : (s.session i).pending = []) : s.HeldOpen i :=
  fun e he => by rw [none] at he; exact nomatch he

/-! ### The session table (R1, R7) -/

namespace State.SessionInv

variable {s t : State}

/-- A session table with one record changed. -/
theorem set (h : s.SessionInv) {i : Fin 8} {x : Session} (sessions : ∀ j, t.session j = if j = i then x else s.session j)
    (coherent : x.Coherent)
    (apart : ∀ j, j ≠ i → (s.session j).state ≠ .free → x.state ≠ .free → (s.session j).colour = x.colour →
      ∀ l, ((s.session j).covers l && x.covers l) = false) : t.SessionInv where
  coherent := fun j => by
    rw [sessions]
    split
    · exact coherent
    · exact h.coherent j
  apart := fun j k other used_j used_k same l => by
    rw [sessions] at used_j same ⊢
    rw [sessions] at used_k same ⊢
    by_cases hj : j = i
    · by_cases hk : k = i
      · exact absurd (hj.trans hk.symm) other
      · rw [if_pos hj] at used_j same ⊢
        rw [if_neg hk] at used_k same ⊢
        rw [Bool.and_comm]
        exact apart k hk used_k used_j same.symm l
    · rw [if_neg hj] at used_j same ⊢
      by_cases hk : k = i
      · rw [if_pos hk] at used_k same ⊢
        exact apart j hj used_j used_k same l
      · rw [if_neg hk] at used_k same ⊢
        exact h.apart j k other used_j used_k same l

theorem of_sessions (h : s.SessionInv) (sessions : ∀ j, t.session j = s.session j) : t.SessionInv := by
  refine h.set (i := 0) (x := s.session 0) (fun j => ?_) (h.coherent 0) (fun j other used used' same => h.apart j 0 other used used' same)
  rw [sessions]
  split
  next same => rw [same]
  next => rfl

/-- A record that covers no more and keeps its colour stays apart from the others. -/
theorem set_narrower (h : s.SessionInv) {i : Fin 8} {x : Session} (sessions : ∀ j, t.session j = if j = i then x else s.session j)
    (coherent : x.Coherent) (used : (s.session i).state ≠ .free) (colour : x.colour = (s.session i).colour)
    (covers : ∀ l, x.covers l = true → (s.session i).covers l = true) : t.SessionInv := by
  refine h.set sessions coherent fun j other used_j _ same l => ?_
  have before := h.apart j i other used_j used (same.trans colour) l
  cases covered : x.covers l with
  | false => exact Bool.and_false _
  | true => rwa [covers l covered] at before

/-- A record with fewer held confirmations. -/
theorem coherent_fewer {x : Session} (h : x.Coherent) {pending : List PendingEntry} (fewer : pending.Sublist x.pending) :
    Session.Coherent { x with pending := pending } where
  free := fun free => by
    have initial := h.free free
    rw [initial] at fewer ⊢
    rw [List.sublist_nil.1 fewer]
    rfl
  used := h.used
  ranges := h.ranges
  pending := fewer.length_le.trans h.pending
  held := fun some => h.held fun none => some (List.sublist_nil.1 (none ▸ fewer))

theorem fewer_pending (h : s.SessionInv) (sessions : ∀ j, t.session j = { s.session j with pending := (t.session j).pending } ∧
    (t.session j).pending.Sublist (s.session j).pending) : t.SessionInv where
  coherent := fun j => (sessions j).1 ▸ coherent_fewer (h.coherent j) (sessions j).2
  apart := fun i j other used_i used_j same l => by
    have covers (k : Fin 8) : (t.session k).covers l = (s.session k).covers l := by rw [(sessions k).1]; rfl
    rw [(sessions i).1] at used_i same
    rw [(sessions j).1] at used_j same
    rw [covers, covers]
    exact h.apart i j other used_i used_j same l

end State.SessionInv

end Sys2Proof.Machine
end

section
/-! Sessions and task store under every request, key event and line step (chapters 1 and 2, R40). -/

namespace Sys2Proof.Machine

open Sys2Proof.Claims

/-- Sessions, task store and held confirmations in agreement, on one state. -/
structure State.SessionsAgree (s : State) : Prop where
  sessions : s.SessionInv
  core : s.StoreCore
  held : ∀ i, s.HeldOpen i

namespace State.SessionsAgree

variable {s t : State}

/-- What leaves sessions, tasks, lists and closures alone keeps the agreement. -/
theorem of_same (h : s.SessionsAgree) (same : SameStore s t) : t.SessionsAgree := by
  have session (i : Fin 8) : t.session i = s.session i := congrArg (fun v : Vector Session 8 => v[i.val]) same.sessions
  exact ⟨h.sessions.of_sessions session, h.core.of_sameStore same, fun i =>
    (h.held i).mono (fun e he => session i ▸ he) fun x hx opened => ⟨x, same.tasks ▸ hx, rfl, opened, rfl⟩⟩

/-- A session record changed so that it still covers the live tasks of its slot. -/
theorem setSession (h : s.SessionsAgree) {i : Fin 8} {x : Session} (sessions : ∀ j, t.session j = if j = i then x else s.session j)
    (tasks : t.tasks = s.tasks) (lists : ∀ l, (t.loc l).tasks = (s.loc l).tasks) (closures : t.closures = s.closures)
    (table : t.SessionInv)
    (covered : ∀ u ∈ s.tasks, u.live = true → u.slot = i → x.state ≠ .free ∧ x.covers u.loc = true)
    (held : ∀ e ∈ x.pending, ∃ u ∈ s.tasks, u.id = e.task ∧ u.state = .opened ∧ u.slot = i) : t.SessionsAgree := by
  refine ⟨table, h.core.of_sessions tasks lists (fun u hu live => ?_) closures, fun j => ?_⟩
  · rw [sessions]
    split
    next here => exact covered u hu live here
    next => exact h.core.covered u hu live
  · by_cases here : j = i
    · subst here
      intro e he
      rw [sessions, if_pos rfl] at he
      rw [tasks]
      exact held e he
    · refine (h.held j).mono (fun e he => ?_) fun u hu opened => ⟨u, tasks ▸ hu, rfl, opened, rfl⟩
      rw [sessions, if_neg here] at he
      exact he

end State.SessionsAgree

/-! ### Session requests (chapter 1) -/

namespace State.SessionsAgree

variable {s : State}

theorem no_tasks_of_free (h : s.SessionsAgree) {i : Fin 8} (free : (s.session i).state = .free) {u : Task} (hu : u ∈ s.tasks)
    (live : u.live = true) : u.slot ≠ i := fun here => (h.core.covered u hu live).1 (here ▸ free)

theorem openSession (h : s.SessionsAgree) (slot colour priority : Nat) : (s.openSession slot colour priority).1.SessionsAgree := by
  refine State.withSlot_keeps (P := fun r => r.1.SessionsAgree) h fun i => ?_
  split
  · exact h
  next free =>
    have free : (s.session i).state = .free := not_not.1 free
    split
    · exact h
    · split
      · exact h
      next c _ low =>
        have coherent : Session.Coherent { state := .active, colour := some c, priority := some priority, ranges := [], pending := [] } :=
          ⟨fun free => (nomatch free), fun _ => ⟨rfl, priority, rfl, Nat.le_of_not_lt low⟩, ⟨Nat.zero_le _, by simp⟩, Nat.zero_le _,
            fun some => absurd rfl some⟩
        refine h.setSession (s.session_setSession i · _) rfl (fun _ => rfl) rfl
          (h.sessions.set (s.session_setSession i · _) coherent fun _ _ _ _ _ l => Bool.and_false _)
          (fun u hu live here => absurd here (h.no_tasks_of_free free hu live)) fun e he => nomatch he

/-- What GRANT offers lies on the bus with its nodes in order (R6). -/
theorem rangeOf_valid {bus first last : Nat} {r : Range} (offered : s.rangeOf bus first last = some r) :
    1 ≤ r.first ∧ r.first ≤ r.last ∧ r.last ≤ 62 := by
  unfold State.rangeOf at offered
  split at offered
  · split at offered
    next valid => exact Option.some.inj offered ▸ valid
    next => exact nomatch offered
  · exact nomatch offered

/-- Two ranges that cover one location overlap. -/
theorem overlaps_of_covers {r q : Range} {l : Loc} (hr : r.covers l = true) (hq : q.covers l = true) : q.overlaps r = true := by
  simp only [Range.covers, Range.overlaps, Bool.and_eq_true, beq_iff_eq, decide_eq_true_eq] at *
  obtain ⟨⟨bus_r, first_r⟩, last_r⟩ := hr
  obtain ⟨⟨bus_q, first_q⟩, last_q⟩ := hq
  exact ⟨⟨bus_q.trans bus_r.symm, first_q.trans last_r⟩, first_r.trans last_q⟩

theorem apart_of_no_clash {i j : Fin 8} {r : Range} (none : s.clashSlot i r = none) (other : j ≠ i)
    (used : (s.session j).state ≠ .free) (same : (s.session j).colour = (s.session i).colour) (l : Loc) :
    ((s.session j).covers l && r.covers l) = false := by
  have clear := List.find?_eq_none.1 none j (List.mem_finRange j)
  by_contra both
  obtain ⟨covers_j, covers_r⟩ := Bool.and_eq_true_iff.1 ((Bool.not_eq_false _).mp both)
  obtain ⟨q, hq, covers_q⟩ := List.any_eq_true.1 covers_j
  refine clear ?_
  simp only [State.clashesWith, Bool.and_eq_true, bne_iff_ne, beq_iff_eq, List.any_eq_true]
  exact ⟨⟨⟨other, used⟩, same⟩, q, hq, overlaps_of_covers covers_r covers_q⟩

theorem grantRange (h : s.SessionsAgree) (slot bus first last : Nat) : (s.grantRange slot bus first last).1.SessionsAgree := by
  refine State.withSlot_keeps (P := fun r => r.1.SessionsAgree) h fun i => ?_
  simp only []
  split
  · exact h
  next used =>
    split
    · exact h
    next r offered =>
      split
      · exact h
      next room =>
        split
        · exact h
        next clear =>
          have before := h.sessions.coherent i
          have covers (l : Loc) : Session.covers { s.session i with ranges := (s.session i).ranges ++ [r] } l =
              ((s.session i).covers l || r.covers l) := by
            simp [Session.covers, List.any_append]
          have coherent : Session.Coherent { s.session i with ranges := (s.session i).ranges ++ [r] } := by
            refine ⟨fun free => absurd free used, before.used, ⟨?_, fun q hq => ?_⟩, before.pending, before.held⟩
            · simp only [List.length_append, List.length_singleton]
              omega
            · obtain old | new := List.mem_append.1 hq
              · exact before.ranges.2 q old
              · exact List.mem_singleton.1 new ▸ rangeOf_valid offered
          refine h.setSession (s.session_setSession i · _) rfl (fun _ => rfl) rfl
            (h.sessions.set (s.session_setSession i · _) coherent fun j other used_j _ same l => ?_)
            (fun u hu live here => ?_) fun e he => h.held i e he
          · rw [covers, Bool.and_or_distrib_left, h.sessions.apart j i other used_j used same l,
              apart_of_no_clash clear other used_j same l]
            rfl
          · subst here
            obtain ⟨_, covered⟩ := h.core.covered u hu live
            exact ⟨used, by rw [covers, covered]; rfl⟩

theorem revokeRange (h : s.SessionsAgree) (slot index : Nat) : (s.revokeRange slot index).1.SessionsAgree := by
  refine State.withSlot_keeps (P := fun r => r.1.SessionsAgree) h fun i => ?_
  simp only []
  split
  · exact h
  next used =>
    split
    · exact h
    · split
      · exact h
      next none_uncovered =>
        have before := h.sessions.coherent i
        have sublist := List.eraseIdx_sublist (s.session i).ranges index
        have coherent : Session.Coherent { s.session i with ranges := (s.session i).ranges.eraseIdx index } :=
          ⟨fun free => absurd free used, before.used,
            ⟨sublist.length_le.trans before.ranges.1, fun q hq => before.ranges.2 q (sublist.mem hq)⟩, before.pending, before.held⟩
        refine h.setSession (s.session_setSession i · _) rfl (fun _ => rfl) rfl
          (h.sessions.set_narrower (s.session_setSession i · _) coherent used rfl fun l covered => ?_)
          (fun u hu live here => ⟨used, ?_⟩) fun e he => h.held i e he
        · obtain ⟨q, hq, covers⟩ := List.any_eq_true.1 covered
          exact List.any_eq_true.2 ⟨q, sublist.mem hq, covers⟩
        · subst here
          have empty : s.uncoveredBy u.slot index = [] := List.eq_nil_of_length_eq_zero (not_not.1 none_uncovered)
          obtain ⟨q, hq, covers⟩ := List.any_eq_true.1 (h.core.covered u hu live).2
          by_contra uncovered
          have uncovered : ((s.session u.slot).ranges.eraseIdx index).any (fun r => r.covers u.loc) = false :=
            Bool.eq_false_iff.2 uncovered
          have at_index : (s.session u.slot).ranges[index]? = some q := by
            obtain ⟨k, hk, rfl⟩ := List.mem_iff_getElem.1 hq
            by_contra other
            have k_ne : k ≠ index := fun same => other (same ▸ List.getElem?_eq_getElem hk)
            have stays : (s.session u.slot).ranges[k] ∈ (s.session u.slot).ranges.eraseIdx index :=
              List.mem_eraseIdx_iff_getElem.2 ⟨k, hk, k_ne, rfl⟩
            exact List.any_eq_false.1 uncovered _ stays covers
          have listed : u ∈ s.uncoveredBy u.slot index := by
            refine List.mem_filter.2 ⟨List.mem_filter.2 ⟨hu, by simp [live]⟩, ?_⟩
            rw [at_index, uncovered]
            simpa using covers
          rw [empty] at listed
          exact nomatch listed

/-- A change of a session record that leaves its ranges, its colour and its pending list. -/
theorem setSession_same_cover (h : s.SessionsAgree) {t : State} {i : Fin 8} {x : Session}
    (sessions : ∀ j, t.session j = if j = i then x else s.session j)
    (tasks : t.tasks = s.tasks) (lists : ∀ l, (t.loc l).tasks = (s.loc l).tasks) (closures : t.closures = s.closures)
    (coherent : x.Coherent) (used : (s.session i).state ≠ .free) (used' : x.state ≠ .free) (colour : x.colour = (s.session i).colour)
    (ranges : x.ranges = (s.session i).ranges) (pending : ∀ e ∈ x.pending, e ∈ (s.session i).pending) : t.SessionsAgree := by
  have covers (l : Loc) : x.covers l = (s.session i).covers l := by simp only [Session.covers, ranges]
  exact h.setSession sessions tasks lists closures
    (h.sessions.set_narrower sessions coherent used colour fun l covered => covers l ▸ covered)
    (fun u hu live here => ⟨used', by rw [covers, ← here]; exact (h.core.covered u hu live).2⟩)
    fun e he => h.held i e (pending e he)

theorem changePriority (h : s.SessionsAgree) (slot priority : Nat) : (s.changePriority slot priority).1.SessionsAgree := by
  refine State.withSlot_keeps (P := fun r => r.1.SessionsAgree) h fun i => ?_
  simp only []
  split
  · exact h
  next used =>
    split
    · exact h
    next low =>
      have before := h.sessions.coherent i
      exact h.setSession_same_cover (s.session_setSession i · _) rfl (fun _ => rfl) rfl
        ⟨fun free => absurd free used, fun _ => ⟨(before.used used).1, priority, rfl, Nat.le_of_not_lt low⟩, before.ranges,
          before.pending, before.held⟩ used used rfl rfl fun _ => id

theorem suspendSession (h : s.SessionsAgree) (slot : Nat) : (s.suspendSession slot).1.SessionsAgree := by
  refine State.withSlot_keeps (P := fun r => r.1.SessionsAgree) h fun i => ?_
  simp only []
  split
  · exact h
  · exact h
  next active =>
    have used : (s.session i).state ≠ .free := by rw [active]; simp
    have before := h.sessions.coherent i
    refine h.setSession_same_cover (i := i) (x := { s.session i with state := .suspended }) (fun j => by simp) (by simp)
      (fun l => ?_) (by simp)
      ⟨fun free => (nomatch free), fun _ => before.used used, before.ranges, before.pending, fun _ => rfl⟩ used (by simp) rfl rfl
      fun _ => id
    simp [State.endHoldsOf]

end State.SessionsAgree

/-! ### RESUME (R14, R15) -/

namespace State.StoreCore

variable {s : State}

/-- The CONFIRM rule adds no record, and leaves each its id and its slot. -/
theorem source_applyConfirm (h : s.StoreCore) {t : Task} (ht : t ∈ s.tasks) (offered : Nat) {y : Task}
    (hy : y ∈ (s.applyConfirm t offered).tasks) : ∃ x ∈ s.tasks, x.id = y.id ∧ x.slot = y.slot := by
  have closes {o : TaskOutcome} {picked : Nat} (hy : y ∈ (s.closeTask t o picked).tasks) :
      ∃ x ∈ s.tasks, x.id = y.id ∧ x.slot = y.slot := by
    rw [h.tasks_closeTask ht] at hy
    obtain ⟨x, hx, rfl⟩ := List.mem_map.1 hy
    obtain ⟨id, slot, -⟩ := t.afterClosure_keys o picked s.closures x
    exact ⟨x, hx, id.symm, slot.symm⟩
  obtain ⟨-, case⟩ | ⟨-, -, case⟩ | ⟨-, -, -, case⟩ | ⟨-, -, -, case⟩ := s.applyConfirm_cases t offered
  all_goals rw [case] at hy
  · exact closes hy
  · exact closes hy
  · exact closes hy
  · rw [tasks_keepPartial] at hy
    obtain ⟨x, hx, rfl⟩ := List.mem_map.1 hy
    exact ⟨x, hx, by split <;> exact ⟨rfl, rfl⟩⟩

end State.StoreCore

/-- What RESUME needs and keeps while it applies the held confirmations of slot `i`: the store, the held confirmations of the
other slots, and that the confirmations still to apply name no task of another slot. -/
structure State.Resuming (s : State) (i : Fin 8) (es : List PendingEntry) : Prop where
  core : s.StoreCore
  others : ∀ j, j ≠ i → s.HeldOpen j
  named : ∀ e ∈ es, ∀ t ∈ s.tasks, t.id = e.task → t.slot = i

namespace State.Resuming

variable {s : State} {i : Fin 8} {e : PendingEntry} {es : List PendingEntry}

theorem of_sameStore {t : State} (h : s.Resuming i es) (same : SameStore s t) : t.Resuming i es := by
  have session (j : Fin 8) : t.session j = s.session j := congrArg (fun v : Vector Session 8 => v[j.val]) same.sessions
  exact ⟨h.core.of_sameStore same, fun j other =>
    (h.others j other).mono (fun e he => session j ▸ he) fun x hx opened => ⟨x, same.tasks ▸ hx, rfl, opened, rfl⟩,
    fun e he t ht => h.named e he t (same.tasks ▸ ht)⟩

theorem applyEntry (h : s.Resuming i (e :: es)) : (s.applyEntry i e).1.Resuming i es := by
  have rest : s.Resuming i es := ⟨h.core, h.others, fun e he => h.named e (List.mem_cons_of_mem _ he)⟩
  have told (n : Notice) : (s.queueNotice n).Resuming i es := rest.of_sameStore ⟨by simp, by simp, by simp, by simp⟩
  unfold State.applyEntry
  split
  · exact rest
  next t found =>
    obtain ⟨ht, same_id⟩ := findTask_mem found
    have slot := h.named e List.mem_cons_self t ht same_id
    split
    · exact told _
    next opened =>
      have opened : t.state = .opened := not_not.1 opened
      split
      · exact told _
      · refine ⟨h.core.applyConfirm ht opened (min_le_right _ _), fun j other =>
          h.core.heldOpen_applyConfirm ht (slot ▸ other) (h.others j other) _, fun f hf y hy same => ?_⟩
        obtain ⟨x, hx, id, slot⟩ := h.core.source_applyConfirm ht _ hy
        exact slot ▸ rest.named f hf x hx (id.trans same)

theorem applyEntries (h : s.Resuming i es) : (s.applyEntries i es).1.Resuming i [] := by
  induction es generalizing s with
  | nil => exact h
  | cons e es ih => exact ih h.applyEntry

end State.Resuming

namespace State.SessionsAgree

variable {s : State}

theorem resumeSession (h : s.SessionsAgree) (slot : Nat) : (s.resumeSession slot).1.SessionsAgree := by
  refine State.withSlot_keeps (P := fun r => r.1.SessionsAgree) h fun i => ?_
  simp only []
  split
  · exact h
  · exact h
  next suspended =>
    have used : (s.session i).state ≠ .free := by rw [suspended]; simp
    have before := h.sessions.coherent i
    have start : s.Resuming i (s.session i).pending := ⟨h.core, fun j _ => h.held j, fun e he t ht same => by
      obtain ⟨u, hu, names, -, slot⟩ := h.held i e he
      exact h.core.eq_of_id ht hu (same.trans names.symm) ▸ slot⟩
    have applied := start.applyEntries
    have session (j : Fin 8) : ((s.applyEntries i (s.session i).pending).1).session j = s.session j := by simp
    have sessions (j : Fin 8) := ((s.applyEntries i (s.session i).pending).1).session_setSession i j
      { ((s.applyEntries i (s.session i).pending).1).session i with state := .active, pending := [] }
    have table : SessionInv (s.applyEntries i (s.session i).pending).1 := h.sessions.of_sessions session
    refine ⟨table.set_narrower sessions ?_ (by rw [session]; exact used) rfl fun l => id, ?_, fun j => ?_⟩
    · rw [session]
      exact ⟨fun free => (nomatch free), fun _ => before.used used, before.ranges, Nat.zero_le _, fun some => absurd rfl some⟩
    · refine applied.core.of_sessions rfl (fun _ => rfl) (fun x hx live => ?_) rfl
      obtain ⟨-, covered⟩ := applied.core.covered x hx live
      rw [sessions]
      split
      next here => exact ⟨by simp, here ▸ covered⟩
      next => exact applied.core.covered x hx live
    · by_cases here : j = i
      · exact heldOpen_of_nil (by rw [sessions, if_pos here])
      · refine (applied.others j here).mono (fun e he => ?_) fun x hx opened => ⟨x, hx, rfl, opened, rfl⟩
        rwa [sessions, if_neg here] at he

/-! ### CLOSE_SESSION (R17) -/

theorem closeSession (h : s.SessionsAgree) (slot : Nat) : (s.closeSession slot).1.SessionsAgree := by
  refine State.withSlot_keeps (P := fun r => r.1.SessionsAgree) h fun i => ?_
  simp only []
  split
  · exact h
  · have stored (x : Task) (hx : x ∈ s.liveTasks i) : x ∈ s.tasks := List.mem_of_mem_filter hx
    have mem_live (x : Task) (hx : x ∈ s.tasks) : x ∈ s.liveTasks i ↔ x.live = true ∧ x.slot = i := by
      simp [State.liveTasks, hx]
    have linked : Linked ((s.tasks.filter (staysBeside (s.liveTasks i))).map id) := by
      rw [List.map_id]
      refine h.core.linked.filter _ fun x hx y hy links => Bool.eq_iff_iff.2 ?_
      rw [h.core.staysBeside_iff stored hx, h.core.staysBeside_iff stored hy, mem_live x hx, mem_live y hy, links.2.2.1,
        links.2.2.2.1, links.2.2.2.2]
    have core := h.core.free (u := s.endHoldsOf i) stored id (by simp) (fun l => by simp [State.endHoldsOf]) (by simp) (by simp)
      (fun _ => ⟨rfl, rfl, rfl, rfl⟩) (fun x hx => ⟨h.core.records x hx, rfl⟩) linked
    have held (j : Fin 8) := h.core.heldOpen_free (u := s.endHoldsOf i) stored id (by simp) (by simp) (fun _ => ⟨rfl, rfl⟩)
      (fun _ => id) (h.held j)
    obtain ⟨freed_tasks, -, freed_sessions⟩ := (s.endHoldsOf i).freeTasks_spec (s.liveTasks i)
    generalize (s.liveTasks i).foldl State.freeTask (s.endHoldsOf i) = u at core held freed_tasks freed_sessions ⊢
    have table : u.SessionInv := h.sessions.fewer_pending fun j => by
      rw [freed_sessions]
      exact ⟨by simp, by simp⟩
    have sessions (j : Fin 8) : ((u.endLingersOf i).setSession i Session.initial).session j =
        if j = i then Session.initial else u.session j := by
      rw [State.session_setSession]
      simp
    have initial : Session.initial.Coherent :=
      ⟨fun _ => rfl, fun used => absurd rfl used, ⟨Nat.zero_le _, fun r hr => nomatch hr⟩, Nat.zero_le _, fun some => absurd rfl some⟩
    refine ⟨table.set sessions initial fun j _ _ used => absurd rfl used, ?_, fun j => ?_⟩
    · refine core.of_sessions (by simp) (fun l => by simp [State.endLingersOf]) (fun x hx live => ?_) (by simp)
      obtain ⟨mem, kept⟩ := List.mem_filter.1 (freed_tasks ▸ hx)
      have mem : x ∈ s.tasks := by simpa using mem
      have elsewhere : x.slot ≠ i := fun here => by
        have apart := (h.core.staysBeside_iff stored mem).1 kept
        exact apart ((mem_live x mem).2 ⟨live, here⟩)
      rw [sessions, if_neg elsewhere]
      exact core.covered x hx live
    · by_cases here : j = i
      · exact heldOpen_of_nil (by rw [sessions, if_pos here]; rfl)
      · refine (held j).mono (fun e he => ?_) fun x hx opened => ⟨x, by simpa using hx, rfl, opened, rfl⟩
        rwa [sessions, if_neg here] at he

end State.SessionsAgree

end Sys2Proof.Machine
end

section
/-! Task requests, key events, line steps and resets keep sessions and task store in agreement. Settles O57. -/

namespace Sys2Proof.Machine

open Sys2Proof.Claims

namespace State.SessionsAgree

variable {s t : State}

/-! ### Task requests (chapter 2) -/

/-- A predecessor that POST_TASK takes is live, of the session, and has no successor yet (R27 check 7). -/
theorem pred_of_no_refusal {slot : Fin 8} {pred : Nat} (taken : s.predRefusal slot pred = none) (given : pred ≠ 0) :
    ∃ x ∈ s.tasks, x.id = pred ∧ x.slot = slot ∧ x.live = true ∧ x.succ = none := by
  unfold State.predRefusal at taken
  rw [if_neg given] at taken
  split at taken
  · exact nomatch taken
  next p found =>
    obtain ⟨mem, id⟩ := findTask_mem found
    split at taken
    · exact nomatch taken
    next good =>
      obtain ⟨slot, live⟩ := not_or.1 good
      exact ⟨p, mem, id, not_not.1 slot, by simpa using live, by simpa using taken⟩

theorem newTask_coherent {id : Nat} (slot : Fin 8) (l : Loc) {requested : Nat} (mode : ShortMode) (pred : Nat)
    (hid : ¬(id = 0 ∨ 65535 < id)) (quantity : ¬(requested = 0 ∨ 999 < requested)) :
    (newTask id slot l requested mode pred).Coherent := by
  refine ⟨?_, Nat.zero_le _, ?_, ?_, fun _ => ⟨?_, rfl, rfl⟩, ?_, ?_, ?_⟩
  · simp only [newTask]
    omega
  · simp only [newTask]
    omega
  · simp [newTask, Task.remaining]
  · simp only [newTask]
    omega
  · intro opened
    by_cases none : pred = 0
    · simp [newTask, none]
    · simp [newTask, none] at opened
  · intro waiting
    by_cases none : pred = 0
    · simp [newTask, none] at waiting
    · simp [newTask, none]
  · intro closed
    by_cases none : pred = 0 <;> simp [newTask, none] at closed

theorem placeTask (h : s.SessionsAgree) {x : Task} (new : s.Postable x) : (s.placeTask x).SessionsAgree where
  sessions := h.sessions.of_sessions fun j => by simp
  core := h.core.placeTask new
  held := fun i => (h.held i).mono (fun e he => by simpa using he) fun y hy opened => by
    obtain ⟨id, slot, -, -, state, -⟩ := x.linkedTo_keys y
    refine ⟨x.linkedTo y, ?_, id, state.trans opened, slot⟩
    rw [State.tasks_placeTask]
    exact List.mem_append_left _ (List.mem_map_of_mem hy)

theorem postTask (h : s.SessionsAgree) (id slot bus node requested shortMode pred : Nat) :
    (s.postTask id slot bus node requested shortMode pred).1.SessionsAgree := by
  unfold State.postTask
  split
  · exact h
  next hid =>
    split
    · exact h
    next unused =>
      split
      · exact h
      next i _ =>
        split
        · exact h
        next used =>
          split
          · exact h
          next l _ =>
            split
            · exact h
            next covered =>
              split
              · exact h
              next quantity =>
                split
                · exact h
                next mode _ =>
                  unfold State.postAt
                  split
                  · exact h
                  next taken =>
                    split
                    · exact h
                    next room =>
                      split
                      · exact h
                      next listRoom =>
                        refine h.placeTask ⟨Nat.lt_of_not_le room, newTask_coherent i l mode pred hid quantity,
                          findTask_none.1 unused, ?_, rfl, Nat.lt_of_not_le listRoom, fun p hp => ?_, used, Bool.eq_true_of_not_eq_false covered⟩
                        · by_cases none : pred = 0 <;> simp [newTask, none, Task.live]
                        · by_cases none : pred = 0
                          · simp [newTask, none] at hp
                          · simp only [newTask, none, if_false, Option.some.injEq] at hp
                            exact hp ▸ pred_of_no_refusal taken none

/-- Records changed in quantities, offers and instants, with held confirmations at most removed, keep the agreement. -/
theorem relabel (h : s.SessionsAgree) (g : Task → Task) (tasks : t.tasks = s.tasks.map g)
    (same : ∀ x, (g x).id = x.id ∧ (g x).slot = x.slot ∧ (g x).loc = x.loc ∧ (g x).succ = x.succ ∧ (g x).pred = x.pred ∧
      (g x).state = x.state ∧ (g x).closure = x.closure)
    (records : ∀ x ∈ s.tasks, (g x).Coherent) (lists : ∀ l, (t.loc l).tasks = (s.loc l).tasks)
    (sessions : ∀ j, t.session j = { s.session j with pending := (t.session j).pending } ∧
      (t.session j).pending.Sublist (s.session j).pending) (closures : t.closures = s.closures) : t.SessionsAgree where
  sessions := h.sessions.fewer_pending sessions
  core := by
    refine h.core.relabel g tasks (fun x => ?_) records lists (fun x hx live => ?_) closures
    · obtain ⟨id, slot, loc, succ, pred, state, closure⟩ := same x
      exact ⟨id, slot, loc, succ, pred, by simp [Task.live, state], closure⟩
    · rw [(sessions x.slot).1]
      exact h.core.covered x hx live
  held := fun i => (h.held i).mono (fun e he => (sessions i).2.mem he) fun x hx opened => by
    obtain ⟨id, slot, -, -, -, state, -⟩ := same x
    exact ⟨g x, tasks ▸ List.mem_map_of_mem hx, id, state.trans opened, slot⟩

/-- The record of one id changed in quantities, offers and instants. -/
theorem updTask (h : s.SessionsAgree) {x : Task} (hx : x ∈ s.tasks) (f : Task → Task)
    (same : ∀ y, (f y).id = y.id ∧ (f y).slot = y.slot ∧ (f y).loc = y.loc ∧ (f y).succ = y.succ ∧ (f y).pred = y.pred ∧
      (f y).state = y.state ∧ (f y).closure = y.closure)
    (record : (f x).Coherent) (tasks : t.tasks = (s.updTask x.id f).tasks) (lists : ∀ l, (t.loc l).tasks = (s.loc l).tasks)
    (sessions : ∀ j, t.session j = { s.session j with pending := (t.session j).pending } ∧
      (t.session j).pending.Sublist (s.session j).pending) (closures : t.closures = s.closures) : t.SessionsAgree := by
  refine h.relabel (fun y => if y.id = x.id then f y else y) tasks (fun y => ?_) (fun y hy => ?_) lists sessions closures
  · split
    · exact same y
    · exact ⟨rfl, rfl, rfl, rfl, rfl, rfl, rfl⟩
  · split
    next here => exact h.core.eq_of_id hx hy here.symm ▸ record
    next => exact h.core.records y hy

theorem amend_coherent {x : Task} (coherent : x.Coherent) (live : x.live = true) {requested : Nat}
    (quantity : ¬(requested ≤ x.picked ∨ 999 < requested)) (now : Instant) : (x.amend requested now).Coherent := by
  have above : x.picked < requested := by omega
  refine ⟨coherent.id, above.le, ?_, le_rfl, fun _ => ⟨above, (coherent.live live).2⟩, coherent.opened, coherent.waiting,
    fun closed => absurd closed (Task.live_iff.1 live)⟩
  simp only [Task.amend]
  omega

theorem amendTask (h : s.SessionsAgree) (id requested : Nat) : (s.amendTask id requested).1.SessionsAgree := by
  unfold State.amendTask
  split
  · exact h
  next x found =>
    obtain ⟨hx, rfl⟩ := findTask_mem found
    split
    · exact h
    next live =>
      split
      · exact h
      next quantity =>
        refine h.updTask hx (fun y => y.amend requested s.now) (fun y => ⟨rfl, rfl, rfl, rfl, rfl, rfl, rfl⟩)
          (amend_coherent (h.core.records x hx) (by simpa using live) quantity s.now) (by simp) (fun l => ?_) (fun j => ?_) (by simp)
        · simp [State.endHold]
          split <;> simp [*]
        · simp only [State.supersede, State.dropPending, State.queueNotices_frame, State.session_setSession, State.endHold_frame,
            State.updTask_frame]
          split
          next here => exact here ▸ ⟨rfl, List.filter_sublist⟩
          next => exact ⟨rfl, .refl _⟩

theorem of_freed (h : s.SessionsAgree) {freed : List Task} {u : State} (sessions : ∀ j, u.session j = s.session j)
    (core : (freed.foldl State.freeTask u).StoreCore) (held : ∀ i, (freed.foldl State.freeTask u).HeldOpen i) :
    (freed.foldl State.freeTask u).SessionsAgree := by
  refine ⟨h.sessions.fewer_pending fun j => ?_, core, held⟩
  rw [(u.freeTasks_spec freed).2.2, sessions]
  exact ⟨rfl, List.filter_sublist⟩

theorem withdrawTask (h : s.SessionsAgree) (id cascade : Nat) : (s.withdrawTask id cascade).1.SessionsAgree := by
  unfold State.withdrawTask
  split
  · exact h
  next x found =>
    obtain ⟨hx, rfl⟩ := findTask_mem found
    repeat' split
    · exact h
    · exact h.of_freed (freed := [x]) (u := s.splice x) (by simp) (h.core.withdrawOne hx) fun i =>
        h.core.heldOpen_withdrawOne hx (h.held i)
    · exact h.of_freed (by simp) (h.core.withdrawChain hx) fun i => h.core.heldOpen_withdrawChain (h.held i)
    · exact h

/-- CLOSED records dropped keep the agreement. -/
theorem filter_closed (h : s.SessionsAgree) (keep : Task → Bool) (tasks : t.tasks = s.tasks.filter keep)
    (closed : ∀ x ∈ s.tasks, keep x = false → x.state = .closed) (lists : ∀ l, (t.loc l).tasks = (s.loc l).tasks)
    (sessions : ∀ i, t.session i = s.session i) (closures : t.closures = s.closures) : t.SessionsAgree where
  sessions := h.sessions.of_sessions sessions
  core := h.core.filter_closed keep tasks closed lists sessions closures
  held := fun i => (h.held i).mono (fun e he => sessions i ▸ he) fun x hx opened => by
    have kept : keep x = true := by
      by_contra dropped
      exact nomatch (closed x hx (Bool.eq_false_iff.2 dropped)).symm.trans opened
    exact ⟨x, tasks ▸ List.mem_filter.2 ⟨hx, kept⟩, rfl, opened, rfl⟩

theorem queryTask (h : s.SessionsAgree) (id : Nat) : (s.queryTask id).1.SessionsAgree := by
  unfold State.queryTask
  split
  · exact h
  next x found =>
    obtain ⟨hx, rfl⟩ := findTask_mem found
    simp only []
    split
    · exact h
    next dead =>
      refine h.filter_closed (fun y => y.id != x.id) (by simp) (fun y hy dropped => ?_) (fun _ => rfl) (fun _ => rfl) rfl
      have same : y.id = x.id := by simpa using dropped
      rw [h.core.eq_of_id hy hx same]
      by_contra live
      exact dead (Task.live_iff.2 live)

/-! ### Key events (chapter 4) -/

theorem of_press {l : Loc} (h : s.SessionsAgree) (press : PressStep l s t) : t.SessionsAgree := by
  have told (u : State) (hu : u.SessionsAgree) (n : Notice) : (u.queueNotice n).SessionsAgree :=
    hu.of_same ⟨by simp, by simp, by simp, by simp⟩
  cases press with
  | silent => exact h
  | told n => exact told s h n
  | held x press stored isOpen suspended room =>
    obtain ⟨hx, -⟩ := findTask_mem stored
    obtain ⟨opened, -, -⟩ := Task.openAt_iff.1 isOpen
    have used : (s.session x.slot).state ≠ .free := by rw [suspended]; simp
    have before := h.sessions.coherent x.slot
    refine told _ (h.setSession (i := x.slot)
      (x := { s.session x.slot with
        pending := (s.session x.slot).pending ++ [{ task := x.id, offered := x.offered, press := press }] })
      (s.session_setSession x.slot · _) rfl (fun _ => rfl) rfl
      (h.sessions.set_narrower (s.session_setSession x.slot · _) ⟨fun free => absurd free used, before.used, before.ranges, ?_,
        fun _ => suspended⟩ used rfl fun l => id)
      (fun u hu live here => here ▸ h.core.covered u hu live) fun e he => ?_) _
    · simpa using room
    · obtain old | new := List.mem_append.1 he
      · exact h.held x.slot e old
      · obtain rfl := List.mem_singleton.1 new
        exact ⟨x, hx, rfl, opened, rfl⟩
  | confirmed x stored isOpen active =>
    obtain ⟨hx, -⟩ := findTask_mem stored
    obtain ⟨opened, -, -⟩ := Task.openAt_iff.1 isOpen
    have none_held : (s.session x.slot).pending = [] := by
      by_contra some
      exact active ((h.sessions.coherent x.slot).held some)
    refine ⟨h.sessions.of_sessions fun j => by simp, h.core.applyConfirm hx opened (h.core.records x hx).offered, fun i => ?_⟩
    by_cases here : i = x.slot
    · exact heldOpen_of_nil (by simpa [here] using none_held)
    · exact h.core.heldOpen_applyConfirm hx here (h.held i) _
  | minus x stored isOpen =>
    obtain ⟨hx, -⟩ := findTask_mem stored
    have before := h.core.records x hx
    refine h.updTask hx (fun y => { y with offered := y.offered - 1 }) (fun y => ⟨rfl, rfl, rfl, rfl, rfl, rfl, rfl⟩)
      ⟨before.id, before.picked, before.requested, (Nat.sub_le _ _).trans before.offered, before.live, before.opened,
        before.waiting, fun closed => ⟨by simp [(before.closed closed).1], (before.closed closed).2⟩⟩ rfl (fun m => ?_)
      (fun j => ⟨by simp, by simp⟩) rfl
    simp only [State.applyMinus, State.setHold, State.loc_modRot]
    split
    next here => rw [here]; rfl
    next => rfl
  | plus x stored isOpen =>
    obtain ⟨hx, -⟩ := findTask_mem stored
    obtain ⟨opened, -, -⟩ := Task.openAt_iff.1 isOpen
    have before := h.core.records x hx
    refine h.updTask hx (fun y => { y with offered := min (y.offered + 1) y.remaining })
      (fun y => ⟨rfl, rfl, rfl, rfl, rfl, rfl, rfl⟩)
      ⟨before.id, before.picked, before.requested, min_le_right _ _, before.live, before.opened, before.waiting,
        fun closed => absurd (opened.symm.trans closed) (by simp)⟩ rfl (fun m => ?_) (fun j => ⟨by simp, by simp⟩) rfl
    simp only [State.applyPlus, State.setHold, State.loc_modRot]
    split
    next here => rw [here]; rfl
    next => rfl

/-! ### Resets -/

/-- A part without sessions and tasks is in agreement. -/
theorem of_initial (sessions : ∀ i, t.session i = Session.initial) (tasks : t.tasks = []) (lists : ∀ l, (t.loc l).tasks = []) :
    t.SessionsAgree where
  sessions := by
    refine ⟨fun i => ?_, fun i j _ used => absurd (by rw [sessions]; rfl) used⟩
    rw [sessions]
    exact ⟨fun _ => rfl, fun used => absurd rfl used, ⟨Nat.zero_le _, fun r hr => nomatch hr⟩, Nat.zero_le _, fun some => absurd rfl some⟩
  core := by
    refine ⟨?_, ?_, ?_, ⟨?_, ?_, ⟨id, ?_⟩⟩, fun l => ?_, fun l id => ?_, ?_, ?_⟩
    case refine_7 => rw [lists]; exact ⟨Nat.zero_le _, .nil⟩
    case refine_8 => rw [lists, tasks]; simp
    all_goals simp [tasks]
  held := fun i => heldOpen_of_nil (by rw [sessions]; rfl)

end State.SessionsAgree

/-! ### Every command -/

theorem State.tasks_modRot (s : State) (l m : Loc) (f : Rotation → Rotation) : ((s.modRot l f).loc m).tasks = (s.loc m).tasks := by
  rw [State.loc_modRot]
  split
  next here => rw [here]
  next => rfl

namespace State.SessionsAgree

variable {s t : State}

theorem owner (h : s.SessionsAgree) {i : Instr} {f : State → State × Answer} (owned : requestOwner i = some f) :
    (f s).1.SessionsAgree := by
  have untouched {u : State} (sessions : u.sessions = s.sessions) (tasks : u.tasks = s.tasks) (closures : u.closures = s.closures)
      (lists : ∀ l, (u.loc l).tasks = (s.loc l).tasks) : u.SessionsAgree := h.of_same ⟨sessions, tasks, closures, lists⟩
  cases i <;> cases owned
  case resetPart =>
    exact of_initial (fun i => by simp [State.resetPart, State.commandReset, State.session])
      rfl (fun l => by simp [State.resetPart, State.commandReset, State.loc, Location.initial])
  case directSet bus node colour char0 char1 char2 blink =>
    refine untouched (by simp) (by simp) (by simp) fun l => ?_
    simp only [State.directSet]
    repeat' split
    case h_2.isFalse.isFalse => exact State.tasks_modRot ..
    all_goals rfl
  case directEnd bus node =>
    refine untouched (by simp) (by simp) (by simp) fun l => ?_
    simp only [State.directEnd]
    repeat' split
    case h_2.isFalse => exact State.tasks_modRot ..
    all_goals rfl
  case openSession slot colour priority => exact h.openSession slot colour priority
  case grant slot bus first last => exact h.grantRange slot bus first last
  case revoke slot index => exact h.revokeRange slot index
  case setPriority slot priority => exact h.changePriority slot priority
  case suspend slot => exact h.suspendSession slot
  case resume slot => exact h.resumeSession slot
  case closeSession slot => exact h.closeSession slot
  case postTask id slot bus node requested shortMode pred => exact h.postTask id slot bus node requested shortMode pred
  case amendTask id requested => exact h.amendTask id requested
  case withdrawTask id cascade => exact h.withdrawTask id cascade
  case queryTask id => exact h.queryTask id
  all_goals apply untouched <;> simp

end State.SessionsAgree

end Sys2Proof.Machine
end

section
/-! Sessions, task store and reports under every command. Settles O57. -/

namespace Sys2Proof.Machine

open Sys2Proof.Claims

/-- The agreement of sessions, task store and the reports that name closures, on one state. -/
structure State.StoreAgree (s : State) : Prop where
  agree : s.SessionsAgree
  reports : s.ReportsCounted

namespace State.StoreAgree

variable {s t : State}

theorem of_same (h : s.StoreAgree) (same : SameStore s t) (entries : t.notices.entries = s.notices.entries) : t.StoreAgree where
  agree := h.agree.of_same same
  reports := fun e he n hn => by
    rw [entries] at he
    rw [same.closures]
    exact h.reports e he n hn

/-- Nothing that sessions, tasks and reports speak of has changed. -/
theorem frame (h : s.StoreAgree) (sessions : t.sessions = s.sessions) (tasks : t.tasks = s.tasks) (closures : t.closures = s.closures)
    (locs : t.locs = s.locs) (entries : t.notices.entries = s.notices.entries) : t.StoreAgree :=
  h.of_same ⟨sessions, tasks, closures, fun l => by simp only [State.loc, locs]⟩ entries

theorem of_queued (agree : t.SessionsAgree) (h : s.StoreAgree) (queued : s.Queued t) : t.StoreAgree :=
  ⟨agree, queued.reportsCounted h.reports⟩

theorem of_initial (agree : t.SessionsAgree) (entries : t.notices.entries = []) : t.StoreAgree :=
  ⟨agree, fun e he => by rw [entries] at he; exact nomatch he⟩

theorem owner (h : s.StoreAgree) {i : Instr} {f : State → State × Answer} (owned : requestOwner i = some f) :
    (f s).1.StoreAgree := by
  have agree := h.agree.owner owned
  by_cases reset : i = .resetPart
  · subst reset
    cases owned
    exact .of_initial agree rfl
  by_cases class_ : ∃ c p, i = .setClass c p
  · obtain ⟨c, p, rfl⟩ := class_
    cases owned
    refine ⟨agree, ?_⟩
    simp only [State.setClass]
    split
    · exact h.reports
    · exact h.reports
  by_cases mask : ∃ l, i = .setMask l
  · obtain ⟨l, rfl⟩ := mask
    cases owned
    exact ⟨agree, h.reports⟩
  exact .of_queued agree h
    (KeepsQueues.owner_queued owned reset (fun c p is => class_ ⟨c, p, is⟩) (fun l is => mask ⟨l, is⟩) s)

theorem link (s : State) (l : Link) (h : s.StoreAgree) : State.StoreAgree { s with link := l } := h.frame rfl rfl rfl rfl rfl

/-- Step 1 of R166 frees at most the CLOSED record of the closure that the notice names (R40). -/
theorem settleOutbound (h : s.StoreAgree) (o : Outbound) (count : Nat) : (s.settleOutbound o count).StoreAgree := by
  unfold State.settleOutbound
  simp only []
  split
  · cases o with
    | empty => exact h.frame rfl rfl rfl rfl rfl
    | answer a => exact h.frame rfl rfl rfl rfl rfl
    | notice e =>
      unfold State.removeNotice
      simp only []
      split
      · exact ⟨h.agree.of_same ⟨rfl, rfl, rfl, fun _ => rfl⟩, fun x hx => h.reports x (List.mem_of_mem_filter hx)⟩
      · refine ⟨h.agree.filter_closed _ rfl (fun x hx dropped => ?_) (fun _ => rfl) (fun _ => rfl) rfl,
          fun x hx => h.reports x (List.mem_of_mem_filter hx)⟩
        simp only [Bool.not_eq_false', Bool.and_eq_true, beq_iff_eq] at dropped
        exact dropped.1
  · exact h.frame rfl rfl rfl rfl rfl

theorem line (h : s.StoreAgree) (step : LineStep s t) : t.StoreAgree := by
  cases step with
  | hold => exact .of_initial (.of_initial (fun i => by simp [State.hold, State.reset, State.session]) rfl
      fun l => by simp [State.hold, State.reset, State.loc, Location.initial]) rfl
  | release held => exact .of_initial (.of_initial (fun i => by simp [State.released, State.latchStrap, State.hold, State.reset, State.session]) rfl
      fun l => by simp [State.released, State.latchStrap, State.hold, State.reset, State.loc, Location.initial]) rfl
  | lines dark lamptest => exact h.frame rfl rfl rfl rfl rfl
  | fallInReset => exact h.frame rfl rfl rfl rfl rfl
  | fall working => exact h.frame rfl rfl rfl rfl rfl
  | firstByte kind => exact h.frame rfl rfl rfl rfl rfl
  | riseAlone none => exact h.frame rfl rfl rfl rfl rfl
  | rise o further inProgress =>
    have before : State.StoreAgree { s with lcs := true } := h.frame rfl rfl rfl rfl rfl
    exact State.completeTransaction_keeps link (fun _ o n h => h.settleOutbound o n) (fun _ _ _ owned _ h => h.owner owned) before o further

theorem visitAnswered (h : s.StoreAgree) (b : Fin 4) (i : Fin 62) (e : Option KeyEvent) :
    (s.visitAnswered { bus := b, idx := i } e).StoreAgree := by
  obtain ⟨u, v, before, press, after⟩ := visitAnswered_steps s b i e
  exact .of_queued (((h.agree.of_same before.sameStore).of_press press).of_same after.sameStore) h (.visitAnswered s b i e)

theorem exec {c : Instr} (ran : exec c s = .next t) (h : s.StoreAgree) : t.StoreAgree := by
  obtain rfl | ⟨-, rfl⟩ | line | ⟨b, moved⟩ | ⟨b, i, second, e, -, rfl⟩ := exec_cases ran
  · exact h
  · exact State.runRequest_keeps link h (fun _ _ owned _ => h.owner owned) c
  · exact h.line line
  · exact .of_queued (h.agree.of_same moved.edits.sameStore) h (.of_edits moved.edits)
  · exact h.visitAnswered b i e

end State.StoreAgree

theorem State.storeAgree_iff (s : State) : s.StoreAgree ↔ s.SessionInv ∧ s.StoreInv := by
  rw [storeInv_iff]
  exact ⟨fun ⟨⟨sessions, core, held⟩, reports⟩ => ⟨sessions, core, reports, held⟩,
    fun ⟨sessions, core, reports, held⟩ => ⟨⟨sessions, core, held⟩, reports⟩⟩

/-- Settles O57: `State.StoreAgree` is kept by every command. Bus events leave sessions and tasks (`Edits.sameStore`), a key event
does one press step, and each request has its lemma. -/
theorem stepKeepsSessionsAndTaskStore : Obligations.StepKeepsSessionsAndTaskStore := by
  intro s t sessions store ran
  exact (State.storeAgree_iff t).1 (step_keeps (P := State.StoreAgree) (fun _ _ h => h.frame rfl rfl rfl rfl rfl)
    (fun _ _ h => h.frame rfl rfl rfl rfl rfl) (fun _ _ _ => State.StoreAgree.exec) ran ((State.storeAgree_iff s).2 ⟨sessions, store⟩))

end Sys2Proof.Machine
end

section
/-! A bus controller with its feed monitor and load governor: what each operation of a sweep, a walk and a sample keeps (R91, R106
to R110, R114 to R122, R130 to R147). -/

namespace Sys2Proof.Machine

open Sys2Proof.Claims

/-- The agreement of one bus in service: controller, feed monitor and governor agree and are in range. -/
structure BusSound (c : Bus) (f : Feed) (g : Governor) : Prop where
  coherent : c.Coherent
  agrees : SupplyAgrees c f g
  bus : c.inRange
  feed : f.inRange
  governor : g.inRange
  on : c.state ≠ .off

section

variable {c d : Bus} {f e : Feed} {g k : Governor}

theorem Exchange.ofSweep_or (x : Exchange) : x.ofSweep = true ∨ x = .none ∨ (∃ i k, x = .walkTake i k) ∨ x = .walkLook := by
  cases x <;> simp [Exchange.ofSweep]

/-- A bus in SERVICE holds no timer but that of its next sweep. -/
theorem Bus.Coherent.of_service (service : c.state = .service) (waitEnd : c.waitEnd = none) (enrLowEnd : c.enrLowEnd = none)
    (resettingEnd : c.resettingEnd = none) (exchange : c.exchange.ofSweep = true ∨ c.exchange = .none) : c.Coherent := by
  refine ⟨fun walking => ?_, ?_, fun _ => service, fun _ => .inl service, ?_, ?_⟩
  · exfalso
    simp only [Bus.walking, waitEnd, enrLowEnd] at walking
    rcases exchange with sweep | none
    · cases x : c.exchange <;> simp_all [Exchange.ofSweep]
    · simp [none] at walking
  · simp [resettingEnd, service]
  · simp [waitEnd]
  · simp [enrLowEnd]

theorem Bus.Coherent.timers_of_service (h : c.Coherent) (service : c.state = .service) :
    c.waitEnd = none ∧ c.enrLowEnd = none ∧ c.resettingEnd = none := by
  have no_walk : ¬c.walking := fun walking => by simpa [service] using h.walk walking
  simp only [Bus.walking, not_or, Bool.not_eq_true, Option.isSome_eq_false_iff, Option.isNone_iff_eq_none] at no_walk
  obtain ⟨waitEnd, enrLowEnd, -⟩ := no_walk
  refine ⟨waitEnd, enrLowEnd, ?_⟩
  have := h.reset
  simpa [service] using this

theorem Bus.Coherent.exchange_of_service (h : c.Coherent) (service : c.state = .service) :
    c.exchange.ofSweep = true ∨ c.exchange = .none := by
  have no_walk : ¬c.walking := fun walking => by simpa [service] using h.walk walking
  obtain sweep | none | ⟨i, k, take⟩ | look := c.exchange.ofSweep_or
  · exact .inl sweep
  · exact .inr none
  · exact absurd (.inr (.inr (.inl ⟨i, k, take⟩))) no_walk
  · exact absurd (.inr (.inr (.inr look))) no_walk

/-- While an exchange is open no walk timer runs (R91, R92). -/
theorem Bus.Coherent.timers_of_exchange (h : c.Coherent) (open_ : c.exchange ≠ .none) : c.waitEnd = none ∧ c.enrLowEnd = none := by
  refine ⟨?_, ?_⟩
  · by_contra some
    exact open_ (h.waiting (Option.isSome_iff_ne_none.2 some)).2
  · by_contra some
    exact open_ (h.releasing (Option.isSome_iff_ne_none.2 some))

theorem Bus.Coherent.scheduled_of (h : c.Coherent) (away : c.state ≠ .service) : c.scheduled = none := by
  by_contra some
  exact away (h.due (Option.isSome_iff_ne_none.2 some))

theorem Bus.Coherent.resettingEnd_of (h : c.Coherent) (away : c.state ≠ .resetting) : c.resettingEnd = none := by
  by_contra some
  exact away (h.reset.1 (Option.isSome_iff_ne_none.2 some))

theorem SupplyAgrees.of_state (h : SupplyAgrees c f g) (state : d.state = c.state) : SupplyAgrees d f g :=
  ⟨state ▸ h.switch, state ▸ h.brownout, h.running, state ▸ h.off, state ▸ h.phase⟩

theorem SupplyAgrees.phase_none (h : SupplyAgrees c f g) (away : c.state ≠ .service) : g.phaseExpiry = none := by
  by_contra some
  exact away (h.phase (Option.isSome_iff_ne_none.2 some)).1

/-- Fields that no timer, exchange or state depends on may change within their ranges. -/
theorem BusSound.reword (h : BusSound c f g) (state : d.state = c.state) (exchange : d.exchange = c.exchange)
    (scheduled : d.scheduled = c.scheduled) (waitEnd : d.waitEnd = c.waitEnd) (enrLowEnd : d.enrLowEnd = c.enrLowEnd)
    (resettingEnd : d.resettingEnd = c.resettingEnd) (range : d.inRange) : BusSound d f g := by
  refine ⟨?_, h.agrees.of_state state, range, h.feed, h.governor, state ▸ h.on⟩
  obtain ⟨walk, reset, due, sweep, waiting, releasing⟩ := h.coherent
  unfold Bus.walking at walk
  rw [← state, ← exchange, ← waitEnd, ← enrLowEnd] at walk
  rw [← state, ← resettingEnd] at reset
  rw [← state, ← scheduled] at due
  rw [← state, ← exchange] at sweep
  rw [← exchange, ← waitEnd, ← enrLowEnd] at waiting
  rw [← exchange, ← enrLowEnd] at releasing
  exact ⟨walk, reset, due, sweep, waiting, releasing⟩

/-- A bus stays sound while in SERVICE whatever exchange of a sweep it opens or closes, and whatever its next start. -/
theorem BusSound.serving (h : BusSound c f g) (service : c.state = .service) (stays : d.state = c.state)
    (waitEnd : d.waitEnd = c.waitEnd) (enrLowEnd : d.enrLowEnd = c.enrLowEnd) (resettingEnd : d.resettingEnd = c.resettingEnd)
    (exchange : d.exchange.ofSweep = true ∨ d.exchange = .none) (range : d.inRange) : BusSound d f g := by
  obtain ⟨hw, he, hr⟩ := h.coherent.timers_of_service service
  exact ⟨.of_service (stays.trans service) (waitEnd.trans hw) (enrLowEnd.trans he) (resettingEnd.trans hr) exchange,
    h.agrees.of_state stays, range, h.feed, h.governor, stays ▸ h.on⟩

theorem Bus.Coherent.of_enrolling (enrolling : c.state = .enrolling) (resettingEnd : c.resettingEnd = none)
    (scheduled : c.scheduled = none) (waiting : c.waitEnd.isSome → c.enrLowEnd = none ∧ c.exchange = .none)
    (releasing : c.enrLowEnd.isSome → c.exchange = .none) : c.Coherent :=
  ⟨fun _ => enrolling, by simp [resettingEnd, enrolling], by simp [scheduled], fun _ => .inr enrolling, waiting, releasing⟩

/-- The release phase of a bus whose feed is closed (R91, R92, R136). -/
theorem BusSound.released (range : c.inRange) (feed : f.inRange) (governor : g.inRange) (scheduled : c.scheduled = none)
    (closed : f.switchClosed = true) (supplied : f.brownout = false) (running : f.busy = f.runStart.isSome)
    (phase : g.phaseExpiry = none) (sent : List AisleFrame) (enrLow : Instant) :
    BusSound { c with state := .enrolling, exchange := .none, sent := sent, waitEnd := none, resettingEnd := none,
                      enrLowEnd := some enrLow } f g :=
  ⟨.of_enrolling rfl rfl scheduled (fun some => (nomatch some)) fun _ => rfl,
    ⟨by simp [closed], by simp [supplied], running, fun off => (nomatch off), by simp [phase]⟩, range, feed, governor, fun off => (nomatch off)⟩

theorem BusSound.enrolling (h : BusSound c f g) (enrolling : c.state = .enrolling) :
    c.scheduled = none ∧ f.switchClosed = true ∧ f.brownout = false ∧ g.phaseExpiry = none ∧ c.resettingEnd = none := by
  refine ⟨h.coherent.scheduled_of (by simp [enrolling]), h.agrees.switch.2 (.inl enrolling), ?_, h.agrees.phase_none (by simp [enrolling]),
    h.coherent.resettingEnd_of (by simp [enrolling])⟩
  have := h.agrees.brownout
  simpa [enrolling] using this

end

/-! ### On the state -/

/-- Bus `b` is sound. -/
def State.Sound (s : State) (b : Fin 4) : Prop := BusSound (s.bus b) (s.feed b) (s.governor b)

/-- Bus `b` is sound and in SERVICE. -/
structure State.Serves (s : State) (b : Fin 4) : Prop where
  sound : s.Sound b
  service : (s.bus b).state = .service

/-- Bus `b` is sound and awaits the answer of an exchange. -/
structure State.Awaits (s : State) (b : Fin 4) (x : Exchange) : Prop where
  sound : s.Sound b
  exchange : (s.bus b).exchange = x

section

variable {b : Fin 4} {s t : State} {x : Exchange}

theorem State.Sound.of_eq (h : s.Sound b) (bus : t.bus b = s.bus b) (feed : t.feed b = s.feed b) (governor : t.governor b = s.governor b) :
    t.Sound b := by
  unfold State.Sound
  rw [bus, feed, governor]
  exact h

theorem State.Serves.of_eq (h : s.Serves b) (bus : t.bus b = s.bus b) (feed : t.feed b = s.feed b)
    (governor : t.governor b = s.governor b) : t.Serves b := ⟨h.sound.of_eq bus feed governor, bus ▸ h.service⟩

theorem State.Awaits.of_eq (h : s.Awaits b x) (bus : t.bus b = s.bus b) (feed : t.feed b = s.feed b)
    (governor : t.governor b = s.governor b) : t.Awaits b x := ⟨h.sound.of_eq bus feed governor, bus ▸ h.exchange⟩

theorem State.Sound.setBus {c : Bus} (h : BusSound c (s.feed b) (s.governor b)) : (s.setBus b c).Sound b := by
  simpa [State.Sound] using h

/-- A change of the controller of a bus in SERVICE that stays there. -/
theorem State.Serves.setBus (h : s.Serves b) {d : Bus} (stays : d.state = (s.bus b).state) (waitEnd : d.waitEnd = (s.bus b).waitEnd)
    (enrLowEnd : d.enrLowEnd = (s.bus b).enrLowEnd) (resettingEnd : d.resettingEnd = (s.bus b).resettingEnd)
    (exchange : d.exchange.ofSweep = true ∨ d.exchange = .none) (range : d.inRange) : (s.setBus b d).Serves b :=
  ⟨.setBus (h.sound.serving h.service stays waitEnd enrLowEnd resettingEnd exchange range), by simp [stays, h.service]⟩

theorem State.Serves.notices (h : s.Serves b) (ns : List Notice) : (s.queueNotices ns).Serves b :=
  h.of_eq (by simp) (by simp) (by simp)

theorem State.Serves.notice (h : s.Serves b) (n : Notice) (k : Option Nat) : (s.queueNotice n k).Serves b :=
  h.of_eq (by simp) (by simp) (by simp)

theorem State.Serves.sendFrames (h : s.Serves b) (frames : List AisleFrame) (sweep : x.ofSweep = true) :
    (s.sendFrames b frames x).Serves b :=
  h.setBus (d := { s.bus b with sent := frames, exchange := x }) rfl rfl rfl rfl (.inl sweep) h.sound.bus

theorem State.Serves.attempt {l : Loc} (h : s.Serves l.bus) (second : Bool) : (s.attempt l second).Serves l.bus := by
  have planned : (s.plan l).Serves l.bus := h.of_eq (by simp) (by simp) (by simp)
  have sent := planned.sendFrames (x := .visit l.idx second) [(s.plan l).lampFrame l] rfl
  exact sent.setBus rfl rfl rfl rfl (.inl (by simp [State.sendFrames, State.modBus, Exchange.ofSweep])) sent.sound.bus

theorem State.Serves.closeSweep (h : s.Serves b) : (s.closeSweep b).Serves b := by
  obtain ⟨period, period', counter, -⟩ := h.sound.bus
  have closed : BusSound ((s.closeSweep b).bus b) (s.feed b) (s.governor b) := by
    rw [State.closeSweep_bus]
    exact h.sound.serving h.service rfl rfl rfl rfl (.inr rfl) ⟨period, period', counter, min_le_left _ _⟩
  exact ⟨by simpa [State.Sound] using closed, by rw [State.closeSweep_bus]; exact h.service⟩

theorem budget_mode_ne_none (capacity level base even odd : Nat) : (budget capacity level base even odd).mode ≠ .none := by
  rw [budget_eq]
  dsimp only
  split <;> simp

theorem State.Serves.governSweep (h : s.Serves b) : (s.governSweep b).Serves b := by
  obtain ⟨low, high, -⟩ := h.sound.governor
  have written : (s.setGovernor b { s.governor b with
      mode := (s.sweepBudget b).mode, scale := (s.sweepBudget b).scale, overload := (s.sweepBudget b).overload,
      phaseExpiry := if (s.sweepBudget b).mode = .alternate then some ((s.governor b).phaseExpiry.getD (s.now + 500)) else none }).Serves b := by
    refine ⟨?_, by simp [h.service]⟩
    have agrees := h.sound.agrees
    simp only [State.Sound, State.setGovernor_frame, State.governor_setGovernor, if_true]
    exact ⟨h.sound.coherent, ⟨agrees.switch, agrees.brownout, agrees.running, agrees.off, fun some => ⟨h.service, by
      by_contra steady
      simp [steady] at some⟩⟩, h.sound.bus, h.sound.feed, ⟨low, high, .inr ⟨budget_mode_ne_none _ _ _ _ _, budget_scale_range _ _ _ _ _⟩⟩, h.sound.on⟩
  rw [State.governSweep_eq]
  split
  · exact written.notice _ _
  · split
    · exact written.notice _ _
    · exact written

/-! ### Parts of a sweep -/

section

variable {close : State → State} (closes : ∀ {u : State}, u.Serves b → (close u).Serves b)
include closes

theorem State.Serves.pollPart (h : s.Serves b) (k : Nat) : (s.pollPart b k close).Serves b := by
  obtain ⟨i, poll⟩ | ⟨i, probe⟩ | ends := s.pollPart_cases b k close
  · exact poll ▸ h.sendFrames _ rfl
  · exact probe ▸ h.sendFrames _ rfl
  · exact ends ▸ closes h

theorem State.Serves.visitPart (h : s.Serves b) (k : Nat) : (s.visitPart b k close).Serves b := by
  obtain ⟨i, -, visit⟩ | ⟨i, poll⟩ | ⟨i, probe⟩ | ends := s.visitPart_cases b k close
  · exact visit ▸ State.Serves.attempt (l := { bus := b, idx := i }) h false
  · exact poll ▸ h.sendFrames _ rfl
  · exact probe ▸ h.sendFrames _ rfl
  · exact ends ▸ closes h

end

theorem State.Serves.beginSweep (h : s.Serves b) : (s.beginSweep b).Serves b := by
  obtain ⟨period, period', -, duration⟩ := h.sound.bus
  have started : (s.setBus b (s.startedBus b)).Serves b :=
    h.setBus rfl rfl rfl rfl (h.sound.coherent.exchange_of_service h.service) ⟨period, period', Nat.mod_lt _ (by decide), duration⟩
  rw [State.beginSweep_eq]
  exact started.governSweep.visitPart (fun u => u.closeSweep) 0

theorem State.Serves.endSweep (h : s.Serves b) : (s.endSweep b).Serves b := by
  obtain ends | again := s.endSweep_cases b
  · exact ends ▸ h.closeSweep
  · exact again ▸ h.closeSweep.beginSweep

/-- The release phase begins on an ENROLLING bus (R91, R92). -/
theorem State.Sound.startRelease (h : s.Sound b) (enrolling : (s.bus b).state = .enrolling) : (s.startRelease b).Sound b := by
  obtain ⟨scheduled, closed, supplied, phase, -⟩ := BusSound.enrolling h enrolling
  exact .setBus (.released h.bus h.feed h.governor scheduled closed supplied h.agrees.running phase _ _)

theorem State.Awaits.afterExchange (h : s.Awaits b x) (sweep : x.ofSweep = true) {go : State → State}
    (goes : ∀ {u : State}, u.Serves b → (go u).Sound b) : (s.afterExchange b go).Sound b := by
  obtain ⟨enrolling, walk⟩ | ⟨away, goes_on⟩ := s.afterExchange_cases b go
  · exact walk ▸ h.sound.startRelease enrolling
  · have service : (s.bus b).state = .service := by
      obtain service | enrolling := h.sound.coherent.sweep (h.exchange ▸ sweep)
      · exact service
      · exact absurd enrolling away
    exact goes_on ▸ goes ⟨h.sound, service⟩

theorem State.Awaits.nextVisit (h : s.Awaits b x) (sweep : x.ofSweep = true) (i : Fin 62) : (s.nextVisit b i).Sound b :=
  h.afterExchange sweep fun serves => (State.Serves.visitPart .endSweep serves _).sound

theorem State.Awaits.nextPoll (h : s.Awaits b x) (sweep : x.ofSweep = true) (i : Fin 62) : (s.nextPoll b i).Sound b :=
  h.afterExchange sweep fun serves => (State.Serves.pollPart .endSweep serves _).sound

theorem State.Awaits.afterProbe (h : s.Awaits b x) (sweep : x.ofSweep = true) : (s.afterProbe b).Sound b :=
  h.afterExchange sweep fun serves => serves.endSweep.sound

theorem State.Awaits.goodAnswer (h : s.Awaits b x) : (s.goodAnswer b).Awaits b x := by
  have noted : (s.setBus b { s.bus b with sweepGood := true, silent := false }).Awaits b x :=
    ⟨.setBus (h.sound.reword rfl rfl rfl rfl rfl rfl h.sound.bus), by simp [h.exchange]⟩
  unfold State.goodAnswer
  simp only []
  split
  · exact noted.of_eq (by simp [State.modBus]) (by simp [State.modBus]) (by simp [State.modBus])
  · exact noted

theorem State.Awaits.visitAnswered (i : Fin 62) {second : Bool} (h : s.Awaits b (.visit i second)) (e : Option KeyEvent) :
    (s.visitAnswered { bus := b, idx := i } e).Sound b :=
  State.Awaits.nextVisit (x := .visit i second) (h.goodAnswer.of_eq (by simp) (by simp) (by simp)) rfl i

theorem State.Awaits.visitUnanswered {i : Fin 62} {second : Bool} (h : s.Awaits b (.visit i second)) (last : Bool) :
    (s.visitUnanswered { bus := b, idx := i } last).Sound b := by
  unfold State.visitUnanswered
  split
  · exact State.Awaits.nextVisit (x := .visit i second) (h.of_eq (by simp) (by simp) (by simp)) rfl i
  · split
    next enrolling => exact h.sound.startRelease enrolling
    next away =>
      have service : (s.bus b).state = .service :=
        (h.sound.coherent.sweep (by rw [h.exchange]; rfl)).resolve_right away
      exact (State.Serves.attempt (l := { bus := b, idx := i }) ⟨h.sound, service⟩ true).sound

/-! ### Walks -/

/-- An ENROLLING bus whose walk timers have ended sends the next frame of its address phase (R93, R97). -/
theorem State.Sound.sendWalk (h : s.Sound b) (enrolling : (s.bus b).state = .enrolling) (waitEnd : (s.bus b).waitEnd = none)
    (enrLowEnd : (s.bus b).enrLowEnd = none) (frames : List AisleFrame) (x : Exchange) : (s.sendFrames b frames x).Sound b := by
  obtain ⟨scheduled, -, -, -, resettingEnd⟩ := BusSound.enrolling h enrolling
  exact .setBus ⟨.of_enrolling enrolling resettingEnd scheduled (by simp [waitEnd]) (by simp [enrLowEnd]), h.agrees.of_state rfl, h.bus,
    h.feed, h.governor, h.on⟩

theorem State.Awaits.of_walk (h : s.Awaits b x) (walk : x = .walkLook ∨ ∃ i k, x = .walkTake i k) :
    (s.bus b).state = .enrolling ∧ (s.bus b).waitEnd = none ∧ (s.bus b).enrLowEnd = none := by
  have open_ : x ≠ .none := by rintro rfl; simp at walk
  refine ⟨h.sound.coherent.walk ?_, h.sound.coherent.timers_of_exchange (h.exchange.trans_ne open_)⟩
  rcases walk with look | ⟨i, k, take⟩
  · exact .inr (.inr (.inr (h.exchange.trans look)))
  · exact .inr (.inr (.inl ⟨i, k, h.exchange.trans take⟩))

theorem State.marksAbsent_frame (s : State) (ls : List Loc) (b : Fin 4) :
    (ls.foldl State.markAbsent s).bus b = s.bus b ∧ (ls.foldl State.markAbsent s).feed b = s.feed b ∧
    (ls.foldl State.markAbsent s).governor b = s.governor b := by
  induction ls generalizing s with
  | nil => exact ⟨rfl, rfl, rfl⟩
  | cons l ls ih => simpa using ih (s.markAbsent l)

/-- Completion of a walk opens SERVICE with the first sweep (R98, R108). -/
theorem State.Awaits.completeWalk (h : s.Awaits b x) (walk : x = .walkLook ∨ ∃ i k, x = .walkTake i k) (n : Nat) :
    (s.completeWalk b n).Sound b := by
  obtain ⟨enrolling, waitEnd, enrLowEnd⟩ := h.of_walk walk
  obtain ⟨-, closed, supplied, phase, resettingEnd⟩ := BusSound.enrolling h.sound enrolling
  obtain ⟨period, period', -, duration⟩ := h.sound.bus
  have entered (u : State) (bus : u.bus b = s.bus b) (feed : u.feed b = s.feed b) (governor : u.governor b = s.governor b) :
      (u.setBus b { u.bus b with state := .service, exchange := .none, counter := 0, ambiguous := false }).Serves b := by
    refine ⟨.setBus ?_, by simp⟩
    rw [bus, feed, governor]
    exact ⟨.of_service rfl waitEnd enrLowEnd resettingEnd (.inr rfl),
      ⟨by simp [closed], by simp [supplied], h.sound.agrees.running, fun off => (nomatch off), by simp [phase]⟩,
      ⟨period, period', Nat.zero_lt_succ 255, duration⟩, h.sound.feed, h.sound.governor, fun off => (nomatch off)⟩
  obtain ⟨bus, feed, governor⟩ := s.marksAbsent_frame (locsFrom b n) b
  exact (entered (((locsFrom b n).foldl State.markAbsent s).queueNotice (.bus b .enrolDone (some n))) (by simpa using bus)
    (by simpa using feed) (by simpa using governor)).beginSweep.sound

theorem State.Awaits.walkTaken (i : Fin 62) {second : Bool} (h : s.Awaits b (.walkTake i second)) (id : Identity) :
    (s.walkTaken b i id).Sound b := by
  have answered : ((s.goodAnswer b).classifyAt { bus := b, idx := i } id true).Awaits b (.walkTake i second) :=
    h.goodAnswer.of_eq (by simp) (by simp) (by simp)
  obtain ⟨enrolling, waitEnd, enrLowEnd⟩ := answered.of_walk (.inr ⟨i, second, rfl⟩)
  unfold State.walkTaken
  simp only []
  split
  · exact answered.sound.sendWalk enrolling waitEnd enrLowEnd _ _
  · exact answered.sound.sendWalk enrolling waitEnd enrLowEnd _ _

end

end Sys2Proof.Machine
end

section
/-! Bus states, feeds, governors and settings under every command. Settles O55. -/

namespace Sys2Proof.Machine

open Sys2Proof.Claims

section

variable {b : Fin 4} {s t : State}

theorem State.Awaits.probeHere {i : Fin 62} (h : s.Awaits b (.probeLook i)) : (s.probeHere b i).Sound b :=
  State.Awaits.afterExchange (x := .probeLook i) (h.goodAnswer.of_eq (by simp) (by simp) (by simp)) rfl fun serves =>
    (serves.sendFrames (x := .probeTake i false) _ rfl).sound

theorem State.Awaits.classifyAt {x : Exchange} (h : s.Awaits b x) (l : Loc) (id : Identity) (taken : Bool) :
    ((s.goodAnswer b).classifyAt l id taken).Awaits b x := h.goodAnswer.of_eq (by simp) (by simp) (by simp)

/-! ### Samples -/

theorem zeroRunAfter_le (state : BusState) (level : Nat) {old : Nat} (h : old ≤ 4) : zeroRunAfter state level old ≤ 4 := by
  unfold zeroRunAfter
  split
  · split
    · exact min_le_left _ _
    · exact h
  · exact Nat.zero_le 4

theorem State.recordSample_feed (s : State) (b : Fin 4) (level : Nat) : (s.recordSample b level).feed b =
    { s.feed b with
      busy := false, lastStart := (s.feed b).runStart, runStart := none, level := level,
      zeroRun := zeroRunAfter (s.bus b).state level (s.feed b).zeroRun,
      escalated := escalatedAfter (s.feed b).mode level (s.feed b).escalated } := by
  unfold State.recordSample
  simp only []
  split
  · simp
  · simp

theorem State.Sound.recordSample (h : s.Sound b) {level : Nat} (range : level ≤ 15) : (s.recordSample b level).Sound b := by
  have agrees := h.agrees
  unfold State.Sound
  rw [State.recordSample_feed]
  simp only [State.recordSample_frame]
  exact ⟨h.coherent, ⟨agrees.switch, agrees.brownout, rfl, fun off => ⟨(agrees.off off).1, rfl⟩, agrees.phase⟩, h.bus,
    ⟨range, zeroRunAfter_le _ _ h.feed.2⟩, h.governor, h.on⟩

/-- A brownout opens the feed and leaves no timer (R137). -/
theorem BusSound.brownedOut {c : Bus} {f : Feed} {g : Governor} (h : BusSound c f g) (powered : c.state.powered = true) :
    BusSound { c with state := .brownout, exchange := .none, scheduled := none, waitEnd := none, enrLowEnd := none }
      { f with switchClosed := false, brownout := true, zeroRun := 0 } { g with phaseExpiry := none } := by
  have resettingEnd : c.resettingEnd = none := h.coherent.resettingEnd_of fun resetting => by simp [resetting, BusState.powered] at powered
  refine ⟨⟨fun walking => ?_, ?_, ?_, ?_, ?_, ?_⟩, ⟨?_, ?_, h.agrees.running, ?_, ?_⟩, h.bus, ⟨h.feed.1, Nat.zero_le 4⟩, h.governor, fun off => (nomatch off)⟩
  · simp [Bus.walking] at walking
  all_goals simp [resettingEnd, Exchange.ofSweep]

/-- A bus that waits for its supply starts up (R109, R139). -/
theorem BusSound.recovered {c : Bus} {f : Feed} {g : Governor} (h : BusSound c f g) (awaits : c.state.awaitsSupply = true)
    (waitEnd : Instant) :
    BusSound { c with state := .enrolling, waitEnd := some waitEnd }
      { f with switchClosed := true, brownout := f.brownout && !(c.state == .brownout) } g := by
  have away : c.state ≠ .enrolling ∧ c.state ≠ .service ∧ c.state ≠ .resetting := by
    cases state : c.state <;> simp [state, BusState.awaitsSupply] at awaits ⊢
  obtain ⟨enrolling, service, resetting⟩ := away
  have no_walk : ¬c.walking := fun walking => enrolling (h.coherent.walk walking)
  have enrLowEnd : c.enrLowEnd = none := by
    by_contra some
    exact no_walk (.inr (.inl (Option.isSome_iff_ne_none.2 some)))
  have exchange : c.exchange = .none := by
    obtain sweep | none | ⟨i, k, take⟩ | look := c.exchange.ofSweep_or
    · exact ((h.coherent.sweep sweep).elim service enrolling).elim
    · exact none
    · exact absurd (.inr (.inr (.inl ⟨i, k, take⟩))) no_walk
    · exact absurd (.inr (.inr (.inr look))) no_walk
  have supplied : (f.brownout && !(c.state == .brownout)) = false := by
    by_cases dark : c.state = .brownout
    · simp [dark]
    · rw [Bool.eq_false_iff.2 (mt h.agrees.brownout.1 dark), Bool.false_and]
  exact ⟨.of_enrolling rfl (h.coherent.resettingEnd_of resetting) (h.coherent.scheduled_of service) (fun _ => ⟨enrLowEnd, exchange⟩)
    (fun _ => exchange), ⟨by simp, by simp [supplied], h.agrees.running, fun off => (nomatch off),
      by simp [h.agrees.phase_none service]⟩, h.bus, h.feed, h.governor, fun off => (nomatch off)⟩

theorem State.Sound.supplyCheck (h : s.Sound b) (level : Nat) : (s.supplyCheck b level).Sound b := by
  unfold State.supplyCheck
  split
  next powered =>
    split
    · have after := BusSound.brownedOut h powered
      unfold State.Sound State.declareBrownout
      simpa using after
    · exact h
  next =>
    split
    next awaits =>
      split
      · have after := BusSound.recovered h awaits (s.now + 200)
        unfold State.Sound State.recover
        simp only []
        split
        · simpa using after
        · simpa using after
      · exact h
    next => exact h

/-- A bus that is not OFF may reckon any next sample. -/
theorem State.Sound.setNext (h : s.Sound b) (next : Option Instant) : (s.setFeed b { s.feed b with next := next }).Sound b := by
  have agrees := h.agrees
  simp only [State.Sound, State.setFeed_frame, State.feed_setFeed, if_true]
  exact ⟨h.coherent, ⟨agrees.switch, agrees.brownout, agrees.running, fun off => absurd off h.on, agrees.phase⟩, h.bus, h.feed,
    h.governor, h.on⟩

theorem State.Sound.completeSample (h : s.Sound b) (start : Instant) (supply : Nat) :
    (s.completeSample b start (levelOf supply)).Sound b :=
  ((h.recordSample (levelOf_le supply)).supplyCheck _).setNext _

theorem State.Sound.startSample (h : s.Sound b) (now : Instant) :
    (s.modFeed b fun f => { f with busy := true, next := none, runStart := some now }).Sound b := by
  have agrees := h.agrees
  simp only [State.Sound, State.modFeed, State.feed_setFeed, if_true]
  exact ⟨h.coherent, ⟨agrees.switch, agrees.brownout, rfl, fun off => absurd off h.on, agrees.phase⟩, h.bus, h.feed,
    h.governor, h.on⟩

theorem State.Sound.flipPhase (h : s.Sound b) : (s.flipPhase b).Sound b := by
  unfold State.flipPhase
  split
  · exact h
  next running =>
    split
    · have flipped : BusSound { s.bus b with phase := !(s.bus b).phase } (s.feed b) (s.governor b) :=
        h.reword rfl rfl rfl rfl rfl rfl h.bus
      have agrees := flipped.agrees
      simp only [State.Sound, State.modGovernor, State.modBus, State.setGovernor_frame, State.setBus_frame, State.bus_setBus,
        State.governor_setGovernor, if_true]
      exact ⟨flipped.coherent, ⟨agrees.switch, agrees.brownout, agrees.running, agrees.off, fun _ => agrees.phase (by simp [running])⟩,
        flipped.bus, flipped.feed, flipped.governor, flipped.on⟩
    · exact h

/-- At the end of RESETTING the feed closes and the walk starts (R110, R128, R136). -/
theorem State.Sound.resettingEnds (h : s.Sound b) (running : (s.bus b).resettingEnd.isSome = true) :
    ((s.modFeed b fun f => { f with switchClosed := true }).startRelease b).Sound b := by
  have resetting : (s.bus b).state = .resetting := h.coherent.reset.1 running
  have supplied : (s.feed b).brownout = false := Bool.eq_false_iff.2 (mt h.agrees.brownout.1 (by simp [resetting]))
  refine .setBus ?_
  simp only [State.modFeed, State.setFeed_frame, State.feed_setFeed, if_true]
  exact .released (f := { s.feed b with switchClosed := true }) h.bus h.feed h.governor (h.coherent.scheduled_of (by simp [resetting])) rfl supplied h.agrees.running
    (h.agrees.phase_none (by simp [resetting])) _ _

/-- At the end of the ENR interval the address phase begins (R92, R93). -/
theorem State.Sound.enrHigh (h : s.Sound b) (running : (s.bus b).enrLowEnd.isSome = true) (i : Fin 62) (second : Bool) :
    ((s.modBus b fun c => { c with enrLowEnd := none }).walkTakeAt b i second).Sound b := by
  have enrolling : (s.bus b).state = .enrolling := h.coherent.walk (.inr (.inl running))
  have waitEnd : (s.bus b).waitEnd = none := by
    by_contra some
    simp [(h.coherent.waiting (Option.isSome_iff_ne_none.2 some)).1] at running
  obtain ⟨scheduled, -, -, -, resettingEnd⟩ := BusSound.enrolling h enrolling
  have high : (s.modBus b fun c => { c with enrLowEnd := none }).Sound b :=
    .setBus ⟨.of_enrolling enrolling resettingEnd scheduled (by simp [waitEnd]) (fun some => (nomatch some)), h.agrees.of_state rfl,
      h.bus, h.feed, h.governor, h.on⟩
  exact high.sendWalk (by simpa [State.modBus] using enrolling) (by simpa [State.modBus] using waitEnd) (by simp [State.modBus]) _ _

/-- An event of a bus that is not OFF keeps it sound. -/
theorem BusStep.sound (h : s.Sound b) (step : BusStep b s t) : t.Sound b := by
  cases step with
  | sweep due =>
    unfold State.sweepDue at due
    simp only [Bool.and_eq_true, beq_iff_eq] at due
    exact State.Serves.sound (.beginSweep ⟨h, due.1.1⟩)
  | unanswered i second open_ => exact State.Awaits.visitUnanswered ⟨h, open_⟩ second
  | identified i id open_ => exact State.Awaits.nextPoll (State.Awaits.classifyAt ⟨h, open_⟩ _ id false) rfl i
  | unidentified i open_ => exact State.Awaits.nextPoll ⟨h, open_⟩ rfl i
  | probeHere i open_ => exact State.Awaits.probeHere ⟨h, open_⟩
  | probeTaken i second id open_ => exact State.Awaits.afterProbe (State.Awaits.classifyAt ⟨h, open_⟩ _ id true) rfl
  | probeAgain i open_ =>
    exact State.Awaits.afterExchange ⟨h, open_⟩ rfl fun serves => (serves.sendFrames (x := .probeTake i true) _ rfl).sound
  | probeEnds open_ =>
    obtain ⟨i, look⟩ | ⟨i, take⟩ := open_
    · exact State.Awaits.afterProbe ⟨h, look⟩ rfl
    · exact State.Awaits.afterProbe ⟨h, take⟩ rfl
  | tooLong open_ =>
    have answered : (s.goodAnswer b).Awaits b .walkLook := State.Awaits.goodAnswer ⟨h, open_⟩
    exact State.Awaits.completeWalk (answered.of_eq (by simp) (by simp) (by simp)) (.inl rfl) 62
  | walkEnds k open_ =>
    obtain look | ⟨i, take⟩ := open_
    · exact State.Awaits.completeWalk ⟨h, look⟩ (.inl rfl) k
    · exact State.Awaits.completeWalk ⟨h, take⟩ (.inr ⟨i, true, rfl⟩) k
  | walkTaken i second id open_ => exact State.Awaits.walkTaken i ⟨h, open_⟩ id
  | walkAgain i open_ =>
    obtain ⟨enrolling, waitEnd, enrLowEnd⟩ := State.Awaits.of_walk ⟨h, open_⟩ (.inr ⟨i, false, rfl⟩)
    exact h.sendWalk enrolling waitEnd enrLowEnd _ _
  | enrHigh running => exact h.enrHigh running 0 false
  | waitEnds running => exact h.startRelease (h.coherent.walk (.inl running))
  | resettingEnds running => exact h.resettingEnds running
  | sampleStarts due => exact h.startSample s.now
  | sampleCompletes start supply running => exact h.completeSample start supply
  | flips => exact h.flipPhase

/-! ### Requests on a bus -/

theorem State.Sound.setSweep (h : s.Sound b) (period : Nat) : (s.modBus b fun c => { c with period := clamp 20 250 period }).Sound b :=
  .setBus (h.reword rfl rfl rfl rfl rfl rfl ⟨le_max_left _ _, max_le (by decide) (min_le_left _ _), h.bus.2.2⟩)

theorem State.Sound.setFeed (h : s.Sound b) (capacity : Nat) (mode : SamplingMode) :
    ((s.modGovernor b fun g => { g with capacity := 10 * clamp 50 800 capacity }).modFeed b fun f =>
      f.select (s.bus b).state mode s.now).Sound b := by
  have agrees := h.agrees
  have low : 50 ≤ clamp 50 800 capacity := le_max_left _ _
  have high : clamp 50 800 capacity ≤ 800 := max_le (by decide) (min_le_left _ _)
  simp only [State.Sound, State.modGovernor, State.modFeed, State.setFeed_frame, State.setGovernor_frame, State.feed_setFeed,
    State.governor_setGovernor, if_true]
  exact ⟨h.coherent, ⟨agrees.switch, agrees.brownout, agrees.running, fun off => absurd off h.on, agrees.phase⟩, h.bus, h.feed,
    ⟨by dsimp only; omega, by dsimp only; omega, h.governor.2.2⟩, h.on⟩

theorem State.Sound.startEnrol (h : s.Sound b) (service : (s.bus b).state = .service) : (s.startEnrol b).Sound b := by
  obtain ⟨waitEnd, enrLowEnd, resettingEnd⟩ := h.coherent.timers_of_service service
  have supplied : (s.feed b).brownout = false := Bool.eq_false_iff.2 (mt h.agrees.brownout.1 (by simp [service]))
  have enrolling : ((s.leaveService b).modBus b fun c => { c with state := .enrolling }).Sound b := by
    simp only [State.Sound, State.leaveService, State.modGovernor, State.modBus, State.setGovernor_frame, State.setBus_frame,
      State.bus_setBus, State.governor_setGovernor, if_true]
    exact ⟨.of_enrolling rfl resettingEnd rfl (by simp [waitEnd]) (by simp [enrLowEnd]),
      ⟨by simp [h.agrees.switch.2 (.inr service)], by simp [supplied], h.agrees.running, fun off => (nomatch off),
        fun some => (nomatch some)⟩, h.bus, h.feed, h.governor, fun off => (nomatch off)⟩
  unfold State.startEnrol
  simp only []
  split
  · exact enrolling
  · exact enrolling.startRelease (by simp [State.modBus])

theorem State.Sound.clearBus (h : s.Sound b) : (s.clearBus b).Sound b := by
  have reworded : BusSound { s.bus b with silent := false, phase := false } (s.feed b) (s.governor b) :=
    h.reword rfl rfl rfl rfl rfl rfl h.bus
  have agrees := reworded.agrees
  obtain ⟨low, high, -⟩ := h.governor
  simp only [State.Sound, State.clearBus, State.modGovernor, State.modBus, State.modFeed, State.setFeed_frame, State.setGovernor_frame,
    State.setBus_frame, State.feed_setFeed, State.bus_setBus, State.governor_setGovernor, if_true]
  exact ⟨reworded.coherent, ⟨agrees.switch, agrees.brownout, agrees.running, agrees.off, fun some => (nomatch some)⟩, reworded.bus,
    ⟨h.feed.1, Nat.zero_le 4⟩, ⟨low, high, .inl ⟨rfl, rfl⟩⟩, reworded.on⟩

theorem State.Sound.enterResetting (h : s.Sound b) (supplied : (s.bus b).state ≠ .brownout) : (s.enterResetting b).Sound b := by
  have supplied : (s.feed b).brownout = false := Bool.eq_false_iff.2 (mt h.agrees.brownout.1 supplied)
  simp only [State.Sound, State.enterResetting, State.leaveService, State.modGovernor, State.modBus, State.modFeed,
    State.setFeed_frame, State.setGovernor_frame, State.setBus_frame, State.feed_setFeed, State.bus_setBus,
    State.governor_setGovernor, if_true]
  refine ⟨⟨fun walking => ?_, ?_, ?_, ?_, ?_, ?_⟩, ⟨?_, ?_, h.agrees.running, ?_, ?_⟩, h.bus, h.feed, h.governor, fun off => (nomatch off)⟩
  · simp [Bus.walking] at walking
  all_goals simp [supplied, Exchange.ofSweep]

end

end Sys2Proof.Machine
end

section
/-! Bus states, feeds, governors and settings under every command. Settles O55. -/

namespace Sys2Proof.Machine

open Sys2Proof.Claims

/-- The agreement of the supply path with every range, on one state. -/
structure State.SupplyAgree (s : State) : Prop where
  supply : s.SupplyInv
  ranges : s.RangesInv

/-- The agreement of one bus. -/
structure State.AgreesAt (s : State) (d : Fin 4) : Prop where
  coherent : (s.bus d).Coherent
  agrees : SupplyAgrees (s.bus d) (s.feed d) (s.governor d)
  strap : (s.bus d).state = .off ↔ s.held = true ∨ s.inService d = false
  bus : (s.bus d).inRange
  feed : (s.feed d).inRange
  governor : (s.governor d).inRange

namespace State.SupplyAgree

variable {b : Fin 4} {s t : State}

theorem sound (h : s.SupplyAgree) (on : (s.bus b).state ≠ .off) : s.Sound b :=
  ⟨h.supply.coherent b, h.supply.agrees b, h.ranges.buses b, h.ranges.feeds b, h.ranges.governors b, on⟩

theorem agreesAt (h : s.SupplyAgree) (d : Fin 4) : s.AgreesAt d :=
  ⟨h.supply.coherent d, h.supply.agrees d, h.supply.strap d, h.ranges.buses d, h.ranges.feeds d, h.ranges.governors d⟩

theorem of_agreesAt (timing : s.timing.inRange) (h : ∀ d, s.AgreesAt d) : s.SupplyAgree :=
  ⟨⟨fun d => (h d).coherent, fun d => (h d).agrees, fun d => (h d).strap⟩, timing, fun d => (h d).bus, fun d => (h d).feed,
    fun d => (h d).governor⟩

theorem inService_of_strap (strapMs0 : t.strapMs0 = s.strapMs0) (strapMs1 : t.strapMs1 = s.strapMs1) (d : Fin 4) :
    t.inService d = s.inService d := by
  unfold State.inService State.busesInService
  rw [strapMs0, strapMs1]

theorem agreesAt_of_same {d : Fin 4} (h : s.AgreesAt d) (bus : t.bus d = s.bus d) (feed : t.feed d = s.feed d)
    (governor : t.governor d = s.governor d) (held : t.held = s.held) (inService : t.inService d = s.inService d) : t.AgreesAt d := by
  obtain ⟨coherent, agrees, strap, hbus, hfeed, hgovernor⟩ := h
  refine ⟨?_, ?_, ?_, ?_, ?_, ?_⟩
  · rwa [bus]
  · rwa [bus, feed, governor]
  · rwa [bus, held, inService]
  · rwa [bus]
  · rwa [feed]
  · rwa [governor]

theorem of_same (h : s.SupplyAgree) (buses : ∀ d, t.bus d = s.bus d) (feeds : ∀ d, t.feed d = s.feed d)
    (governors : ∀ d, t.governor d = s.governor d) (timing : t.timing.inRange) (held : t.held = s.held)
    (strapMs0 : t.strapMs0 = s.strapMs0) (strapMs1 : t.strapMs1 = s.strapMs1) : t.SupplyAgree :=
  of_agreesAt timing fun d =>
    agreesAt_of_same (h.agreesAt d) (buses d) (feeds d) (governors d) held (inService_of_strap strapMs0 strapMs1 d)

/-- A change of one bus that is not OFF, which leaves it sound. -/
theorem of_bus (h : s.SupplyAgree) (on : (s.bus b).state ≠ .off) (only : OnlyBus b s t) (sound : t.Sound b) : t.SupplyAgree := by
  refine of_agreesAt (only.timing ▸ h.ranges.timing) fun d => ?_
  have inService := inService_of_strap only.strapMs0 only.strapMs1 d
  by_cases here : d = b
  · subst here
    refine ⟨sound.coherent, sound.agrees, ?_, sound.bus, sound.feed, sound.governor⟩
    rw [only.held, inService, ← h.supply.strap]
    exact iff_of_false sound.on on
  · obtain ⟨bus, feed, governor⟩ := only.blocks d here
    exact agreesAt_of_same (h.agreesAt d) bus feed governor only.held inService

/-- On an OFF bus no event has an effect (R107). -/
theorem on_of_step (h : s.SupplyAgree) (step : BusStep b s t) : (s.bus b).state ≠ .off ∨ t = s := by
  have coherent := h.supply.coherent b
  have agrees := h.supply.agrees b
  have swept {x : Exchange} (open_ : (s.bus b).exchange = x) (sweep : x.ofSweep = true) : (s.bus b).state ≠ .off := by
    obtain service | enrolling := coherent.sweep (open_ ▸ sweep)
    · simp [service]
    · simp [enrolling]
  have walking (walk : (s.bus b).walking) : (s.bus b).state ≠ .off := by simp [coherent.walk walk]
  cases step with
  | sweep due =>
    unfold State.sweepDue at due
    simp only [Bool.and_eq_true, beq_iff_eq] at due
    exact .inl (by simp [due.1.1])
  | unanswered i second open_ => exact .inl (swept open_ rfl)
  | identified i id open_ => exact .inl (swept open_ rfl)
  | unidentified i open_ => exact .inl (swept open_ rfl)
  | probeHere i open_ => exact .inl (swept open_ rfl)
  | probeTaken i second id open_ => exact .inl (swept open_ rfl)
  | probeAgain i open_ => exact .inl (swept open_ rfl)
  | probeEnds open_ =>
    obtain ⟨i, look⟩ | ⟨i, take⟩ := open_
    · exact .inl (swept look rfl)
    · exact .inl (swept take rfl)
  | tooLong open_ => exact .inl (walking (.inr (.inr (.inr open_))))
  | walkEnds k open_ =>
    obtain look | ⟨i, take⟩ := open_
    · exact .inl (walking (.inr (.inr (.inr look))))
    · exact .inl (walking (.inr (.inr (.inl ⟨i, true, take⟩))))
  | walkTaken i second id open_ => exact .inl (walking (.inr (.inr (.inl ⟨i, second, open_⟩))))
  | walkAgain i open_ => exact .inl (walking (.inr (.inr (.inl ⟨i, false, open_⟩))))
  | enrHigh running => exact .inl (walking (.inr (.inl running)))
  | waitEnds running => exact .inl (walking (.inl running))
  | resettingEnds running => exact .inl (by simp [coherent.reset.1 running])
  | sampleStarts due => exact .inl fun off => by simp [(agrees.off off).1] at due
  | sampleCompletes start supply running => exact .inl fun off => by simp [(agrees.off off).2] at running
  | flips =>
    by_cases service : (s.bus b).state = .service
    · exact .inl (by simp [service])
    · exact .inr (by simp [State.flipPhase, agrees.phase_none service])

theorem busStep (h : s.SupplyAgree) (step : BusStep b s t) : t.SupplyAgree := by
  obtain on | rfl := h.on_of_step step
  · exact h.of_bus on (.of_edits step.edits) (step.sound (h.sound on))
  · exact h

theorem visitAnswered (h : s.SupplyAgree) (i : Fin 62) {second : Bool} (open_ : (s.bus b).exchange = .visit i second)
    (e : Option KeyEvent) : (s.visitAnswered { bus := b, idx := i } e).SupplyAgree := by
  have on : (s.bus b).state ≠ .off := by
    obtain service | enrolling := (h.supply.coherent b).sweep (open_ ▸ rfl)
    · simp [service]
    · simp [enrolling]
  obtain ⟨u, v, before, press, after⟩ := visitAnswered_steps s b i e
  exact h.of_bus on (((OnlyBus.of_edits before).trans (.of_press rfl press)).trans (.of_edits after))
    (State.Awaits.visitAnswered i ⟨h.sound on, open_⟩ e)

/-! ### Requests -/

theorem le_clamp (lo hi n : Nat) : lo ≤ clamp lo hi n := le_max_left _ _

theorem clampedTiming_inRange (cycle minDwell guard hold linger : Nat) : (clampedTiming cycle minDwell guard hold linger).inRange :=
  ⟨le_clamp .., KeepsQueues.clamp_le _ _ _ (by decide), le_clamp .., KeepsQueues.clamp_le _ _ _ (by decide), KeepsQueues.clamp_le _ _ _ (by decide), le_clamp ..,
    KeepsQueues.clamp_le _ _ _ (by decide), KeepsQueues.clamp_le _ _ _ (by decide)⟩

theorem on_of_inService (h : s.SupplyAgree) (working : s.held = false) (inService : ¬s.inService b = false) : (s.bus b).state ≠ .off :=
  fun off => ((h.supply.strap b).1 off).elim (by simp [working]) inService

theorem setSweep (h : s.SupplyAgree) (working : s.held = false) (bus period : Nat) : (s.setSweep bus period).1.SupplyAgree := by
  refine State.withBus_keeps (P := fun r => r.1.SupplyAgree) h fun b => ?_
  split
  · exact h
  next inService =>
    have on := h.on_of_inService working inService
    exact h.of_bus on (.of_edits (Edits.refl.setBus _)) ((h.sound on).setSweep period)

theorem setFeed (h : s.SupplyAgree) (working : s.held = false) (bus capacity mode : Nat) :
    (s.setFeedRequest bus capacity mode).1.SupplyAgree := by
  refine State.withBus_keeps (P := fun r => r.1.SupplyAgree) h fun b => ?_
  split
  · exact h
  · split
    · exact h
    next m _ inService =>
      have on := h.on_of_inService working inService
      exact h.of_bus on (.of_edits ((Edits.refl.setGovernor _).setFeed _)) ((h.sound on).setFeed capacity m)

theorem startEnrol_edits (s : State) (b : Fin 4) : Edits b s (s.startEnrol b) := by
  unfold State.startEnrol
  simp only []
  split
  · exact ((Edits.refl.setBus _).setGovernor _).setBus _
  · exact (((Edits.refl.setBus _).setGovernor _).setBus _).startRelease

theorem enrol (h : s.SupplyAgree) (bus : Nat) : (s.enrolRequest bus).1.SupplyAgree := by
  refine State.withBus_keeps (P := fun r => r.1.SupplyAgree) h fun b => ?_
  split
  · exact h
  · split
    · exact h
    next service =>
      have service := not_not.1 service
      have on : (s.bus b).state ≠ .off := by simp [service]
      exact h.of_bus on (.of_edits (startEnrol_edits s b)) ((h.sound on).startEnrol service)

theorem clearBus_edits (s : State) (b : Fin 4) : Edits b s (s.clearBus b) := ((Edits.refl.setBus _).setGovernor _).setFeed _

theorem enterResetting_edits {u : State} (h : Edits b s u) : Edits b s (u.enterResetting b) :=
  (((h.setBus _).setGovernor _).setBus _).setFeed _

theorem clearBus_state (s : State) (b : Fin 4) : ((s.clearBus b).bus b).state = (s.bus b).state := by
  simp [State.clearBus, State.modBus]

theorem resetBus (h : s.SupplyAgree) (bus : Nat) : (s.resetBusRequest bus).1.SupplyAgree := by
  refine State.withBus_keeps (P := fun r => r.1.SupplyAgree) h fun b => ?_
  have resets (on : (s.bus b).state ≠ .off) (supplied : (s.bus b).state ≠ .brownout) :
      ((s.clearBus b).enterResetting b).SupplyAgree :=
    h.of_bus on (.of_edits (enterResetting_edits (clearBus_edits s b)))
      ((h.sound on).clearBus.enterResetting (by rwa [clearBus_state]))
  simp only []
  split
  next state => exact resets (by simp [state]) (by simp [state])
  next state => exact resets (by simp [state]) (by simp [state])
  next state => exact resets (by simp [state]) (by simp [state])
  next state =>
    have on : (s.bus b).state ≠ .off := by simp [state]
    exact h.of_bus on (.of_edits (clearBus_edits s b)) (h.sound on).clearBus
  next => exact h
  next => exact h

/-! ### Resets -/

theorem initial_ranges (state : BusState) (next : Option Instant) :
    (Bus.initial state).inRange ∧ (Feed.initial next).inRange ∧ Governor.initial.inRange ∧ Timing.initial.inRange := by
  simp [Bus.initial, Bus.inRange, Feed.initial, Feed.inRange, Governor.initial, Governor.inRange, Timing.initial, Timing.inRange]

/-- A part after a reset: each bus OFF, UNPOWERED or RESETTING, with its feed open (R106, R107, R110, R130, R142). -/
theorem of_initial (state : Fin 4 → BusState) (resettingEnd : Fin 4 → Option Instant) (next : Fin 4 → Option Instant)
    (buses : ∀ d, t.bus d = { Bus.initial (state d) with resettingEnd := resettingEnd d })
    (feeds : ∀ d, t.feed d = Feed.initial (next d)) (governors : ∀ d, t.governor d = Governor.initial)
    (timing : t.timing = Timing.initial)
    (states : ∀ d, (state d = .off ∧ resettingEnd d = none ∧ next d = none) ∨ (state d = .unpowered ∧ resettingEnd d = none) ∨
      (state d = .resetting ∧ (resettingEnd d).isSome = true))
    (strap : ∀ d, state d = .off ↔ t.held = true ∨ t.inService d = false) : t.SupplyAgree := by
  have ranges := initial_ranges
  refine ⟨⟨fun d => ?_, fun d => ?_, fun d => ?_⟩, timing ▸ (ranges .off none).2.2.2, fun d => ?_, fun d => ?_, fun d => ?_⟩
  · rw [buses]
    refine ⟨fun walking => ?_, ?_, ?_, ?_, ?_, ?_⟩
    · simp [Bus.walking, Bus.initial] at walking
    · obtain ⟨off, none, -⟩ | ⟨unpowered, none⟩ | ⟨resetting, some⟩ := states d
      · simp [Bus.initial, off, none]
      · simp [Bus.initial, unpowered, none]
      · simp [Bus.initial, resetting, some]
    all_goals simp [Bus.initial, Exchange.ofSweep]
  · rw [buses, feeds, governors]
    obtain ⟨off, -, none⟩ | ⟨unpowered, -⟩ | ⟨resetting, -⟩ := states d
    · exact ⟨by simp [Bus.initial, Feed.initial, off], by simp [Bus.initial, Feed.initial, off], rfl, fun _ => ⟨none, rfl⟩,
        fun some => (nomatch some)⟩
    · exact ⟨by simp [Bus.initial, Feed.initial, unpowered], by simp [Bus.initial, Feed.initial, unpowered], rfl,
        by simp [Bus.initial, unpowered], fun some => (nomatch some)⟩
    · exact ⟨by simp [Bus.initial, Feed.initial, resetting], by simp [Bus.initial, Feed.initial, resetting], rfl,
        by simp [Bus.initial, resetting], fun some => (nomatch some)⟩
  · rw [buses]
    exact strap d
  · rw [buses]
    exact (ranges (state d) none).1
  · rw [feeds]
    exact (ranges .off (next d)).2.1
  · rw [governors]
    exact (ranges .off none).2.2.1

theorem hold (s : State) : s.hold.SupplyAgree :=
  of_initial (fun _ => .off) (fun _ => none) (fun _ => none) (fun d => by simp [State.hold, State.bus, Bus.initial])
    (fun d => by simp [State.hold, State.feed]) (fun d => by simp [State.hold, State.reset, State.governor]) rfl
    (fun _ => .inl ⟨rfl, rfl, rfl⟩) fun _ => ⟨fun _ => .inl rfl, fun _ => rfl⟩

theorem released (s : State) : s.released.SupplyAgree := by
  refine of_initial (fun d => if s.hold.latchStrap.inService d then .unpowered else .off) (fun _ => none)
    (fun d => if s.hold.latchStrap.inService d then some 0 else none) (fun d => by simp [State.released, State.bus, Bus.initial])
    (fun d => by simp [State.released, State.feed]) (fun d => by simp [State.released, State.latchStrap, State.hold, State.reset, State.governor])
    rfl (fun d => ?_) fun d => ?_
  · by_cases inService : s.hold.latchStrap.inService d = true
    · exact .inr (.inl ⟨if_pos inService, rfl⟩)
    · exact .inl ⟨if_neg inService, rfl, if_neg inService⟩
  · have same : s.released.inService d = s.hold.latchStrap.inService d := rfl
    rw [same]
    cases s.hold.latchStrap.inService d <;> simp [State.released]

theorem commandReset (s : State) (working : s.held = false) : s.commandReset.SupplyAgree := by
  refine of_initial (fun d => if s.inService d then .resetting else .off) (fun d => if s.inService d then some (s.now + 500) else none)
    (fun d => if s.inService d then some s.now else none) (fun d => ?_)
    (fun d => by simp [State.commandReset, State.feed]) (fun d => by simp [State.commandReset, State.governor])
    rfl (fun d => ?_) fun d => ?_
  · have at_ : s.commandReset.bus d = s.commandResetBus d := by simp [State.commandReset, State.bus]
    rw [at_, State.commandResetBus]
    cases s.inService d <;> rfl
  · cases s.inService d
    · exact .inl ⟨rfl, rfl, rfl⟩
    · exact .inr (.inr ⟨rfl, rfl⟩)
  · have same : s.commandReset.inService d = s.inService d := rfl
    have held : s.commandReset.held = false := working
    rw [same, held]
    cases s.inService d <;> simp

/-! ### Every command -/

/-- Nothing that buses, feeds, governors and settings depend on has changed. -/
theorem frame (h : s.SupplyAgree) (buses : t.buses = s.buses) (feeds : t.feeds = s.feeds) (governors : t.governors = s.governors)
    (timing : t.timing = s.timing) (held : t.held = s.held) (strapMs0 : t.strapMs0 = s.strapMs0) (strapMs1 : t.strapMs1 = s.strapMs1) :
    t.SupplyAgree :=
  h.of_same (fun d => by simp only [State.bus, buses]) (fun d => by simp only [State.feed, feeds])
    (fun d => by simp only [State.governor, governors]) (timing ▸ h.ranges.timing) held strapMs0 strapMs1

theorem owner (h : s.SupplyAgree) (working : s.held = false) {i : Instr} {f : State → State × Answer} (owned : requestOwner i = some f) :
    (f s).1.SupplyAgree := by
  cases i <;> cases owned
  case resetPart => exact commandReset s working
  case setTiming cycle minDwell guard hold linger =>
    exact h.of_same (fun _ => rfl) (fun _ => rfl) (fun _ => rfl) (clampedTiming_inRange cycle minDwell guard hold linger) rfl rfl rfl
  case setSweep bus period => exact h.setSweep working bus period
  case setFeed bus capacity mode => exact h.setFeed working bus capacity mode
  case enrol bus => exact h.enrol bus
  case resetBus bus => exact h.resetBus bus
  all_goals apply h.frame <;> simp

theorem link (s : State) (l : Link) (h : s.SupplyAgree) : State.SupplyAgree { s with link := l } :=
  h.frame rfl rfl rfl rfl rfl rfl rfl

theorem settleOutbound (h : s.SupplyAgree) (o : Outbound) (count : Nat) : (s.settleOutbound o count).SupplyAgree := by
  unfold State.settleOutbound
  simp only []
  split
  · cases o with
    | empty => exact h.frame rfl rfl rfl rfl rfl rfl rfl
    | answer a => exact h.frame rfl rfl rfl rfl rfl rfl rfl
    | notice e =>
      unfold State.removeNotice
      simp only []
      split
      · exact h.frame rfl rfl rfl rfl rfl rfl rfl
      · exact h.frame rfl rfl rfl rfl rfl rfl rfl
  · exact h.frame rfl rfl rfl rfl rfl rfl rfl

theorem line (h : s.SupplyAgree) (step : LineStep s t) : t.SupplyAgree := by
  cases step with
  | hold => exact hold s
  | release held => exact released s
  | lines dark lamptest => exact h.frame rfl rfl rfl rfl rfl rfl rfl
  | fallInReset => exact h.frame rfl rfl rfl rfl rfl rfl rfl
  | fall working => exact h.frame rfl rfl rfl rfl rfl rfl rfl
  | firstByte kind => exact h.frame rfl rfl rfl rfl rfl rfl rfl
  | riseAlone none => exact h.frame rfl rfl rfl rfl rfl rfl rfl
  | rise o further inProgress =>
    have before : State.SupplyAgree { s with lcs := true } := h.frame rfl rfl rfl rfl rfl rfl rfl
    exact State.completeTransaction_keeps link (fun _ o n h => h.settleOutbound o n) (fun _ _ _ owned takes h => h.owner takes.1 owned)
      before o further

theorem exec {c : Instr} (ran : exec c s = .next t) (h : s.SupplyAgree) : t.SupplyAgree := by
  obtain rfl | ⟨-, rfl⟩ | line | ⟨b, moved⟩ | ⟨b, i, second, e, open_, rfl⟩ := exec_cases ran
  · exact h
  · exact State.runRequest_keeps link h (fun _ _ owned takes => h.owner takes.1 owned) c
  · exact h.line line
  · exact h.busStep moved
  · exact h.visitAnswered i open_ e

end State.SupplyAgree

/-- Settles O55: `State.SupplyAgree` is kept by every command. Of the buses an event touches one, which stays sound
(`BusStep.sound`); the requests on a bus have a lemma each. -/
theorem stepKeepsSupplyAndBusStates : Obligations.StepKeepsSupplyAndBusStates := by
  intro s t supply ranges ran
  have after : t.SupplyAgree := step_keeps (P := State.SupplyAgree) (fun _ _ h => h.frame rfl rfl rfl rfl rfl rfl rfl)
    (fun _ _ h => h.frame rfl rfl rfl rfl rfl rfl rfl) (fun _ _ _ => State.SupplyAgree.exec) ran ⟨supply, ranges⟩
  exact ⟨after.supply, after.ranges⟩

end Sys2Proof.Machine
end

section
/-! What requests and presses leave of every location: its presence record, its current token and the token map. -/

namespace Sys2Proof.Machine

open Sys2Proof.Claims

/-- The presence record, the content's kind and the token map of `y` are those of `x`. -/
structure Location.Alike (x y : Location) : Prop where
  state : y.state = x.state
  kind : y.kind = x.kind
  serial : y.serial = x.serial
  miss : y.miss = x.miss
  ack : y.ack = x.ack
  meaning : y.rot.meaning = x.rot.meaning
  token : y.rot.token = x.rot.token
  map : y.rot.map = x.rot.map

theorem Location.Alike.refl (x : Location) : x.Alike x := ⟨rfl, rfl, rfl, rfl, rfl, rfl, rfl, rfl⟩

/-- The locations of `t` are alike those of `s`. -/
def State.LocsAlike (s t : State) : Prop := ∀ l, (s.loc l).Alike (t.loc l)

namespace State.LocsAlike

variable {s t u : State}

theorem refl (s : State) : s.LocsAlike s := fun _ => .refl _

theorem trans (h : s.LocsAlike t) (k : t.LocsAlike u) : s.LocsAlike u := fun l =>
  ⟨(k l).state.trans (h l).state, (k l).kind.trans (h l).kind, (k l).serial.trans (h l).serial, (k l).miss.trans (h l).miss,
    (k l).ack.trans (h l).ack, (k l).meaning.trans (h l).meaning, (k l).token.trans (h l).token, (k l).map.trans (h l).map⟩

/-- An update that leaves the locations changes nothing here. -/
theorem same (h : s.LocsAlike t) (locs : u.locs = t.locs) : s.LocsAlike u := fun l => by
  have at_ : u.loc l = t.loc l := by simp only [State.loc, locs]
  rw [at_]
  exact h l

theorem modLoc (h : s.LocsAlike t) (l : Loc) (f : Location → Location) (alike : ∀ x : Location, x.Alike (f x)) :
    s.LocsAlike (t.modLoc l f) := h.trans fun m => by
  rw [State.loc_modLoc]
  split
  next here => exact here ▸ alike _
  next => exact .refl _

theorem modRot (h : s.LocsAlike t) (l : Loc) (f : Rotation → Rotation)
    (alike : ∀ r : Rotation, (f r).meaning = r.meaning ∧ (f r).token = r.token ∧ (f r).map = r.map) : s.LocsAlike (t.modRot l f) :=
  h.modLoc l _ fun x => ⟨rfl, rfl, rfl, rfl, rfl, (alike x.rot).1, (alike x.rot).2.1, (alike x.rot).2.2⟩

theorem mapLocs (h : s.LocsAlike t) (f : Location → Location) (alike : ∀ x : Location, x.Alike (f x)) : s.LocsAlike (t.mapLocs f) :=
  h.trans fun l => by
    rw [State.loc_mapLocs]
    exact alike _

/-! ### The operations of tasks and sessions -/

theorem notice (h : s.LocsAlike t) (n : Notice) (c : Option Nat) : s.LocsAlike (t.queueNotice n c) := h.same (by simp)

theorem notices (h : s.LocsAlike t) (ns : List Notice) : s.LocsAlike (t.queueNotices ns) := h.same (by simp)

theorem updTask (h : s.LocsAlike t) (id : Nat) (f : Task → Task) : s.LocsAlike (t.updTask id f) := h.same rfl

theorem setSession (h : s.LocsAlike t) (i : Fin 8) (x : Session) : s.LocsAlike (t.setSession i x) := h.same rfl

theorem endHold (h : s.LocsAlike t) (l : Loc) (id : Nat) : s.LocsAlike (t.endHold l id) := h.modRot l _ fun _ => ⟨rfl, rfl, rfl⟩

theorem unlist (h : s.LocsAlike t) (l : Loc) (id : Nat) : s.LocsAlike (t.unlist l id) :=
  h.modLoc l _ fun _ => ⟨rfl, rfl, rfl, rfl, rfl, rfl, rfl, rfl⟩

theorem startLinger (h : s.LocsAlike t) (l : Loc) (id : Nat) (slot : Fin 8) : s.LocsAlike (t.startLinger l id slot) := by
  unfold State.startLinger
  simp only []
  split
  · exact h.endHold l id
  · exact (h.endHold l id).modRot l _ fun _ => ⟨rfl, rfl, rfl⟩

theorem freeTasks (h : s.LocsAlike t) (ts : List Task) : s.LocsAlike (ts.foldl State.freeTask t) := h.trans fun l => by
  rw [(t.freeTasks_spec ts).2.1]
  exact ⟨rfl, rfl, rfl, rfl, rfl, rfl, rfl, rfl⟩

theorem closeTask (s : State) (t : Task) (o : TaskOutcome) (picked : Nat) : s.LocsAlike (s.closeTask t o picked) := fun m => by
  rw [State.loc_closeTask]
  split
  next here => exact here ▸ ⟨rfl, rfl, rfl, rfl, rfl, rfl, rfl, rfl⟩
  next => exact .refl _

theorem applyConfirm (s : State) (t : Task) (offered : Nat) : s.LocsAlike (s.applyConfirm t offered) := by
  obtain ⟨-, done⟩ | ⟨-, -, zero⟩ | ⟨-, -, -, short⟩ | ⟨-, -, -, keep⟩ := s.applyConfirm_cases t offered
  · exact done ▸ closeTask s t _ _
  · exact zero ▸ closeTask s t _ _
  · exact short ▸ closeTask s t _ _
  · exact keep ▸ (((refl s).updTask _ _).notice _ _).endHold _ _

theorem of_press {l : Loc} (h : PressStep l s t) : s.LocsAlike t := by
  have start := refl s
  cases h with
  | silent => exact start
  | told n => exact start.notice n none
  | held t press _ _ _ _ => exact (start.setSession _ _).notice _ none
  | confirmed t _ _ _ => exact applyConfirm s t _
  | minus t _ _ => exact (start.updTask _ _).modRot l _ fun _ => ⟨rfl, rfl, rfl⟩
  | plus t _ _ => exact (start.updTask _ _).modRot l _ fun _ => ⟨rfl, rfl, rfl⟩

/-! ### Requests -/

theorem applyEntries (s : State) (i : Fin 8) (es : List PendingEntry) : s.LocsAlike (s.applyEntries i es).1 := by
  have entry (u : State) (e : PendingEntry) : u.LocsAlike (u.applyEntry i e).1 := by
    unfold State.applyEntry
    repeat' split
    · exact refl u
    · exact (refl u).notice _ none
    · exact (refl u).notice _ none
    · exact applyConfirm u _ _
  induction es generalizing s with
  | nil => exact refl s
  | cons e es ih => exact (entry s e).trans (ih _)

theorem resumeSession (s : State) (slot : Nat) : s.LocsAlike (s.resumeSession slot).1 := by
  refine State.withSlot_keeps (P := fun r => s.LocsAlike r.1) (refl s) fun i => ?_
  simp only []
  split
  · exact refl s
  · exact refl s
  · exact (applyEntries s i _).setSession _ _

theorem endHoldsOf (h : s.LocsAlike t) (i : Fin 8) : s.LocsAlike (t.endHoldsOf i) :=
  h.mapLocs _ fun _ => ⟨rfl, rfl, rfl, rfl, rfl, rfl, rfl, rfl⟩

theorem endLingersOf (h : s.LocsAlike t) (i : Fin 8) : s.LocsAlike (t.endLingersOf i) :=
  h.mapLocs _ fun _ => ⟨rfl, rfl, rfl, rfl, rfl, rfl, rfl, rfl⟩

theorem suspendSession (s : State) (slot : Nat) : s.LocsAlike (s.suspendSession slot).1 := by
  refine State.withSlot_keeps (P := fun r => s.LocsAlike r.1) (refl s) fun i => ?_
  simp only []
  split
  · exact refl s
  · exact refl s
  · exact ((refl s).setSession _ _).endHoldsOf i

theorem closeSession (s : State) (slot : Nat) : s.LocsAlike (s.closeSession slot).1 := by
  refine State.withSlot_keeps (P := fun r => s.LocsAlike r.1) (refl s) fun i => ?_
  simp only []
  split
  · exact refl s
  · exact ((((refl s).endHoldsOf i).freeTasks (s.liveTasks i)).endLingersOf i).setSession i Session.initial

theorem postTask (s : State) (id slot bus node requested shortMode pred : Nat) :
    s.LocsAlike (s.postTask id slot bus node requested shortMode pred).1 := by
  have place (x : Task) : s.LocsAlike (s.placeTask x) := fun m => by
    rw [State.loc_placeTask]
    split
    next here => exact here ▸ ⟨rfl, rfl, rfl, rfl, rfl, rfl, rfl, rfl⟩
    next => exact .refl _
  unfold State.postTask State.postAt
  repeat' split
  all_goals first | exact refl s | exact place _

theorem amendTask (s : State) (id requested : Nat) : s.LocsAlike (s.amendTask id requested).1 := by
  have start := refl s
  unfold State.amendTask
  split
  · exact start
  · split
    · exact start
    · split
      · exact start
      · exact (((start.updTask _ _).endHold _ _).setSession _ _).notices _

theorem withdrawTask (s : State) (id cascade : Nat) : s.LocsAlike (s.withdrawTask id cascade).1 := by
  unfold State.withdrawTask
  split
  · exact refl s
  next x _ =>
    repeat' split
    · exact refl s
    · exact freeTasks (ts := [x]) ((refl s).same (by simp))
    · exact freeTasks ((refl s).same (by simp)) _
    · exact refl s

theorem directSet (s : State) (bus node colour char0 char1 char2 blink : Nat) :
    s.LocsAlike (s.directSet bus node colour char0 char1 char2 blink).1 := by
  simp only [State.directSet]
  repeat' split
  case h_2.isFalse.isFalse => exact (refl s).modRot _ _ fun _ => ⟨rfl, rfl, rfl⟩
  all_goals exact refl s

theorem directEnd (s : State) (bus node : Nat) : s.LocsAlike (s.directEnd bus node).1 := by
  simp only [State.directEnd]
  repeat' split
  case h_2.isFalse => exact (refl s).modRot _ _ fun _ => ⟨rfl, rfl, rfl⟩
  all_goals exact refl s

/-- Every request but RESET_PART leaves the presence records and the token maps. -/
theorem owner {i : Instr} {f : State → State × Answer} (owned : requestOwner i = some f) (no_reset : i ≠ .resetPart) (s : State) :
    s.LocsAlike (f s).1 := by
  cases i <;> cases owned
  case resetPart => exact absurd rfl no_reset
  case suspend slot => exact suspendSession s slot
  case resume slot => exact resumeSession s slot
  case closeSession slot => exact closeSession s slot
  case postTask id slot bus node requested shortMode pred => exact postTask s id slot bus node requested shortMode pred
  case amendTask id requested => exact amendTask s id requested
  case withdrawTask id cascade => exact withdrawTask s id cascade
  case directSet bus node colour char0 char1 char2 blink => exact directSet s bus node colour char0 char1 char2 blink
  case directEnd bus node => exact directEnd s bus node
  all_goals exact (refl s).same (by simp)

end State.LocsAlike

end Sys2Proof.Machine
end

section
/-! Presence records and tokens under every command. Settles O56. -/

namespace Sys2Proof.Machine

open Sys2Proof.Claims

/-- A location record is coherent, and the entry of its current token describes the content on view. -/
structure Location.Sound (x : Location) : Prop where
  coherent : x.Coherent
  token : x.rot.TokenNamesContent

/-! ### Tokens (R58, R59) -/

/-- A planning that issues a token. -/
theorem Choice.settle_issues {c : Choice} (issues : c.issues = true) (now : Instant) : c.settle now =
    { c.rot with
      meaning := some c.meaning, face := c.face, token := c.rot.token + 1,
      map := c.rot.map.set (c.rot.token + 1).val (some { meaning := c.meaning, issued := now }),
      slotStart := some now, fresh := false } := by
  unfold Choice.settle
  exact if_pos issues

/-- A planning that issues none. -/
theorem Choice.settle_keeps {c : Choice} (keeps : c.issues = false) (now : Instant) :
    c.settle now = { c.rot with meaning := some c.meaning, face := c.face } := by
  unfold Choice.settle
  exact if_neg (by simp [keeps])

/-- A planning without a new token leaves the content's kind and its shown task (R58). -/
theorem Choice.meaning_of_keeps {c : Choice} (keeps : c.issues = false) : c.rot.meaning = some c.meaning := by
  unfold Choice.issues at keeps
  simp only [Bool.or_eq_false_iff, bne_eq_false_iff_eq] at keeps
  exact keeps.1.1

/-- The map entry of the token that a planning leaves describes the content chosen. -/
theorem Choice.settle_names (c : Choice) (now : Instant) (named : c.rot.TokenNamesContent) : (c.settle now).TokenNamesContent := by
  cases issues : c.issues with
  | true =>
    rw [c.settle_issues issues]
    intro m shown
    exact ⟨{ meaning := c.meaning, issued := now }, by simp, Option.some.inj shown⟩
  | false =>
    rw [c.settle_keeps issues]
    intro m shown
    exact named m ((c.meaning_of_keeps issues).trans shown)

theorem Rotation.SameShown.names {r q : Rotation} (h : r.SameShown q) (named : q.TokenNamesContent) : r.TokenNamesContent := by
  unfold Rotation.TokenNamesContent at named ⊢
  rw [h.meaning]
  simpa [h.map, h.token] using named

namespace Location

variable {x y : Location}

theorem Alike.sound (h : x.Alike y) (sound : x.Sound) : y.Sound := by
  obtain ⟨state, kind, serial, miss, -, meaning, token, map⟩ := h
  obtain ⟨⟨hserial, hkind, present, suspect, lost, absent, mismatch⟩, named⟩ := sound
  have visited : y.visited = x.visited := by simp only [Location.visited, state]
  refine ⟨⟨?_, ?_, ?_, ?_, ?_, ?_, ?_⟩, ?_⟩
  · rwa [kind, serial]
  · rwa [visited, kind]
  · rwa [state, miss]
  · rwa [state, miss]
  · rwa [state, miss]
  · rwa [state, miss]
  · rwa [state, miss]
  · unfold Rotation.TokenNamesContent at named ⊢
    rw [meaning]
    simpa [map, token] using named

theorem Alike.visited (h : x.Alike y) : y.visited = x.visited := by simp only [Location.visited, h.state]

theorem Sound.initial : Location.initial.Sound := by
  refine ⟨⟨rfl, fun h => (nomatch h), fun h => (nomatch h), fun h => (nomatch h), fun h => (nomatch h), fun _ => rfl,
    fun h => (nomatch h)⟩, fun m h => nomatch h⟩

/-- A good answer to a visit (R116). -/
theorem Sound.answered (h : x.Sound) (visited : x.visited = true) : x.answered.Sound := by
  obtain present | suspect := (Location.visited_iff x).1 visited
  · exact ⟨⟨h.coherent.serial, fun _ => h.coherent.kind visited, fun _ => rfl, by simp [Location.answered, present],
      by simp [Location.answered, present], fun _ => rfl, fun _ => rfl⟩, h.token⟩
  · exact ⟨⟨h.coherent.serial, fun _ => h.coherent.kind visited, fun _ => rfl, by simp [Location.answered, suspect],
      by simp [Location.answered, suspect], fun _ => rfl, fun _ => rfl⟩, h.token⟩

/-- A failed visit (R117). -/
theorem Sound.failed (h : x.Sound) (visited : x.visited = true) : x.failed.Sound := by
  have miss : x.miss ≤ 2 := by
    obtain present | suspect := (Location.visited_iff x).1 visited
    · have := h.coherent.present present
      omega
    · have := h.coherent.suspect suspect
      omega
  have counted : min 3 (x.miss + 1) = x.miss + 1 := by omega
  refine ⟨⟨h.coherent.serial, fun _ => h.coherent.kind visited, ?_, ?_, ?_, ?_, ?_⟩, h.token⟩
  all_goals
    simp only [Location.failed, counted]
    split
    · simp [*]
    · first | (intro none; simp at none; done) | omega

/-- A classified answer (R94). -/
theorem Sound.classify (h : x.Sound) (id : Identity) (taken : Bool) : (x.classify id taken).Sound := by
  refine ⟨?_, h.token⟩
  have serial := h.coherent.serial
  unfold Location.classify Location.classified
  cases named : ModuleKind.ofCode id.code with
  | none => exact ⟨serial, by simp [Location.visited], by simp, by simp, by simp, by simp, by simp⟩
  | some k =>
    cases recorded : x.kind with
    | none => exact ⟨rfl, fun _ => rfl, by simp, by simp, by simp, by simp, by simp⟩
    | some old =>
      dsimp only
      split
      · exact ⟨rfl, fun _ => rfl, by simp, by simp, by simp, by simp, by simp⟩
      · split
        · exact ⟨rfl, fun _ => rfl, by simp, by simp, by simp, by simp, by simp⟩
        · exact ⟨rfl, fun _ => rfl, by simp, by simp, by simp, by simp, by simp⟩

/-- A location that a brownout takes (R138). -/
theorem Sound.afterBrownout (h : x.Sound) : x.afterBrownout.Sound := by
  unfold Location.afterBrownout
  split
  · exact ⟨⟨h.coherent.serial, by simp [Location.visited], by simp, by simp, by simp, by simp, by simp⟩, h.token⟩
  · exact h

end Location

/-- Every location record is sound. -/
def State.LocsSound (s : State) : Prop := ∀ l, (s.loc l).Sound

/-- A visit of bus `b` in progress concerns a location that sweeps visit. -/
def State.VisitsIn (s : State) (b : Fin 4) : Prop :=
  ∀ i k, (s.bus b).exchange = .visit i k → (s.loc { bus := b, idx := i }).visited = true

theorem State.LocsAlike.sound {s t : State} (h : s.LocsAlike t) (sound : s.LocsSound) : t.LocsSound := fun l => (h l).sound (sound l)

namespace State.LocsSound

variable {s t : State} {b : Fin 4}

theorem of_locs (h : s.LocsSound) (locs : t.locs = s.locs) : t.LocsSound := ((State.LocsAlike.refl s).same locs).sound h

theorem setLoc (h : s.LocsSound) (l : Loc) {x : Location} (sound : x.Sound) : (s.setLoc l x).LocsSound := fun m => by
  rw [State.loc_setLoc]
  split
  · exact sound
  · exact h m

theorem plan (h : s.LocsSound) (l : Loc) : (s.plan l).LocsSound := fun m => by
  rw [State.rot_plan]
  split
  · obtain ⟨shown, -⟩ := s.choose_spec l
    obtain ⟨⟨serial, kind, present, suspect, lost, absent, mismatch⟩, named⟩ := h l
    exact ⟨⟨serial, kind, present, suspect, lost, absent, mismatch⟩, (s.choose l).settle_names s.now (shown.names named)⟩
  · exact h m

theorem attempt (h : s.LocsSound) (l : Loc) (second : Bool) : (s.attempt l second).LocsSound := (h.plan l).of_locs rfl

theorem goodAnswer (h : s.LocsSound) : (s.goodAnswer b).LocsSound := h.of_locs (by simp)

theorem sendFrames (h : s.LocsSound) (frames : List AisleFrame) (x : Exchange) : (s.sendFrames b frames x).LocsSound := h.of_locs rfl

theorem startRelease (h : s.LocsSound) : (s.startRelease b).LocsSound := h.of_locs rfl

theorem closeSweep (h : s.LocsSound) : (s.closeSweep b).LocsSound := h.of_locs (by simp)

theorem governSweep (h : s.LocsSound) : (s.governSweep b).LocsSound := h.of_locs (by simp)

section

variable {close : State → State} (closes : ∀ {u : State}, u.LocsSound → (close u).LocsSound)
include closes

theorem pollPart (h : s.LocsSound) (k : Nat) : (s.pollPart b k close).LocsSound := by
  obtain ⟨i, poll⟩ | ⟨i, probe⟩ | ends := s.pollPart_cases b k close
  · exact poll ▸ h.sendFrames _ _
  · exact probe ▸ h.sendFrames _ _
  · exact ends ▸ closes h

theorem visitPart (h : s.LocsSound) (k : Nat) : (s.visitPart b k close).LocsSound := by
  obtain ⟨i, -, visit⟩ | ⟨i, poll⟩ | ⟨i, probe⟩ | ends := s.visitPart_cases b k close
  · exact visit ▸ h.attempt _ false
  · exact poll ▸ h.sendFrames _ _
  · exact probe ▸ h.sendFrames _ _
  · exact ends ▸ closes h

theorem afterExchange (h : s.LocsSound) : (s.afterExchange b close).LocsSound := by
  obtain ⟨-, walk⟩ | ⟨-, goes_on⟩ := s.afterExchange_cases b close
  · exact walk ▸ h.startRelease
  · exact goes_on ▸ closes h

end

theorem beginSweep (h : s.LocsSound) : (s.beginSweep b).LocsSound := by
  have started : (s.setBus b (s.startedBus b)).LocsSound := h.of_locs rfl
  rw [State.beginSweep_eq]
  exact started.governSweep.visitPart closeSweep 0

theorem endSweep (h : s.LocsSound) : (s.endSweep b).LocsSound := by
  obtain ends | again := s.endSweep_cases b
  · exact ends ▸ h.closeSweep
  · exact again ▸ h.closeSweep.beginSweep

theorem nextVisit (h : s.LocsSound) (i : Fin 62) : (s.nextVisit b i).LocsSound :=
  afterExchange (fun h => visitPart endSweep h _) h

theorem nextPoll (h : s.LocsSound) (i : Fin 62) : (s.nextPoll b i).LocsSound :=
  afterExchange (fun h => pollPart endSweep h _) h

theorem afterProbe (h : s.LocsSound) : (s.afterProbe b).LocsSound := afterExchange endSweep h

theorem classifyAt (h : s.LocsSound) (l : Loc) (id : Identity) (taken : Bool) : (s.classifyAt l id taken).LocsSound := by
  have written := h.setLoc l ((h l).classify id taken)
  unfold State.classifyAt
  simp only []
  split
  · exact written.of_locs (by simp)
  · exact written

theorem failVisit (h : s.LocsSound) {l : Loc} (visited : (s.loc l).visited = true) : (s.failVisit l).LocsSound := by
  have written : (s.modLoc l Location.failed).LocsSound := h.setLoc l ((h l).failed visited)
  unfold State.failVisit
  simp only []
  split
  · exact written.of_locs (by simp)
  · exact written

theorem visitUnanswered (h : s.LocsSound) {i : Fin 62} (visited : (s.loc { bus := b, idx := i }).visited = true) (second : Bool) :
    (s.visitUnanswered { bus := b, idx := i } second).LocsSound := by
  unfold State.visitUnanswered
  split
  · exact (h.failVisit visited).nextVisit i
  · split
    · exact h.startRelease
    · exact h.attempt _ true

theorem markAbsent (h : s.LocsSound) (l : Loc) : (s.markAbsent l).LocsSound := by
  unfold State.markAbsent
  simp only []
  split
  · exact h
  · have written : (s.setLoc l { s.loc l with
        state := .absent, miss := 0, rot := { (s.loc l).rot with direct := none } }).LocsSound :=
      h.setLoc l ⟨⟨(h l).coherent.serial, fun visited => (nomatch visited), fun h => (nomatch h), fun h => (nomatch h),
        fun h => (nomatch h), fun _ => rfl, fun h => (nomatch h)⟩, (h l).token⟩
    exact written.of_locs (by simp)

theorem completeWalk (h : s.LocsSound) (n : Nat) : (s.completeWalk b n).LocsSound := by
  have marked (ls : List Loc) : (ls.foldl State.markAbsent s).LocsSound := by
    induction ls generalizing s with
    | nil => exact h
    | cons l ls ih => exact ih (h.markAbsent l)
  have entered (u : State) (sound : u.LocsSound) : (u.enterService b).LocsSound :=
    State.LocsSound.beginSweep (sound.of_locs rfl)
  have told : (((locsFrom b n).foldl State.markAbsent s).queueNotice (.bus b .enrolDone (some n))).LocsSound :=
    (marked (locsFrom b n)).of_locs (by simp)
  exact entered _ told

theorem walkTaken (h : s.LocsSound) (i : Fin 62) (id : Identity) : (s.walkTaken b i id).LocsSound := by
  have classified := (h.goodAnswer (b := b)).classifyAt { bus := b, idx := i } id true
  unfold State.walkTaken
  simp only []
  split
  · exact classified.sendFrames _ _
  · exact classified.sendFrames _ _

theorem completeSample (h : s.LocsSound) (start : Instant) (level : Nat) : (s.completeSample b start level).LocsSound := by
  have recorded : (s.recordSample b level).LocsSound := h.of_locs (by simp)
  have checked : ((s.recordSample b level).supplyCheck b level).LocsSound := by
    unfold State.supplyCheck
    split
    · split
      · have browned (u : State) (sound : u.LocsSound) : (u.declareBrownout b).LocsSound := by
          have lost : (u.mapBusLocs b Location.afterBrownout).LocsSound := fun l => by
            rw [State.loc_mapBusLocs]
            split
            · exact (sound l).afterBrownout
            · exact sound l
          refine lost.of_locs ?_
          simp [State.declareBrownout, State.mapBusLocs, State.modFeed, State.modBus, State.modGovernor, State.setFeed,
            State.setBus, State.setGovernor]
        exact browned _ recorded
      · exact recorded
    · split
      · split
        · exact recorded.of_locs (by simp)
        · exact recorded
      · exact recorded
  exact checked.of_locs rfl

theorem visitAnswered (h : s.LocsSound) {i : Fin 62} (visited : (s.loc { bus := b, idx := i }).visited = true)
    (e : Option KeyEvent) : (s.visitAnswered { bus := b, idx := i } e).LocsSound := by
  have good : (s.goodAnswer b).LocsSound := h.goodAnswer
  have same : (s.goodAnswer b).loc { bus := b, idx := i } = s.loc { bus := b, idx := i } := by simp
  have answered : ((s.goodAnswer b).modLoc { bus := b, idx := i } Location.answered).LocsSound :=
    good.setLoc _ (same ▸ (h _).answered visited)
  have taken (u : State) (sound : u.LocsSound) (l : Loc) : (u.takeKeys l e).LocsSound := by
    unfold State.takeKeys
    split
    · exact sound
    next e =>
      unfold State.takeEvent
      split
      · exact sound
      · have acked : (u.modLoc l fun x => { x with ack := e.bit }).LocsSound := sound.setLoc l
          ⟨⟨(sound l).coherent.serial, (sound l).coherent.kind, (sound l).coherent.present, (sound l).coherent.suspect,
            (sound l).coherent.lost, (sound l).coherent.absent, (sound l).coherent.mismatch⟩, (sound l).token⟩
        exact (State.LocsAlike.of_press (State.resolvePress_steps _ _ e)).sound acked
  exact (taken _ answered _).nextVisit i

end State.LocsSound

end Sys2Proof.Machine
end

section
/-! Presence records and tokens under every command. Settles O56. -/

namespace Sys2Proof.Machine

open Sys2Proof.Claims

namespace State.VisitsIn

variable {s t : State} {b : Fin 4}

theorem of_exchange {x : Exchange} (exchange : (s.bus b).exchange = x) (no_visit : ∀ i k, x ≠ .visit i k) : s.VisitsIn b :=
  fun i k visit => absurd (exchange.symm.trans visit) (no_visit i k)

theorem of_same (h : s.VisitsIn b) (exchange : (t.bus b).exchange = (s.bus b).exchange)
    (visited : ∀ i, (t.loc { bus := b, idx := i }).visited = (s.loc { bus := b, idx := i }).visited) : t.VisitsIn b := fun i k visit => by
  rw [visited]
  exact h i k (exchange.symm.trans visit)

theorem sendFrames (s : State) (frames : List AisleFrame) {x : Exchange} (no_visit : ∀ i k, x ≠ .visit i k) :
    (s.sendFrames b frames x).VisitsIn b := of_exchange (x := x) (by simp [State.sendFrames, State.modBus]) no_visit

theorem startRelease (s : State) : (s.startRelease b).VisitsIn b :=
  of_exchange (x := .none) (by simp [State.startRelease, State.modBus]) fun _ _ => by simp

theorem attempt {i : Fin 62} (visited : (s.loc { bus := b, idx := i }).visited = true) (second : Bool) :
    (s.attempt { bus := b, idx := i } second).VisitsIn b := fun j k visit => by
  have here : j = i := by
    simp only [State.attempt, State.sendFrames, State.modBus, State.bus_setBus, if_true, Exchange.visit.injEq] at visit
    exact visit.1.symm
  have kept : ((s.attempt { bus := b, idx := i } second).loc { bus := b, idx := i }).visited = (s.loc { bus := b, idx := i }).visited := by
    simp [State.attempt, State.rot_plan, Location.visited, State.sendFrames, State.modBus]
  rw [here, kept]
  exact visited

theorem closeSweep (s : State) : (s.closeSweep b).VisitsIn b :=
  of_exchange (x := .none) (by rw [State.closeSweep_bus]) fun _ _ => by simp

/-! Every part of a sweep opens an exchange of its own or ends the sweep. -/

section

variable {close : State → State} (closes : ∀ u : State, (close u).VisitsIn b)
include closes

theorem pollPart (s : State) (k : Nat) : (s.pollPart b k close).VisitsIn b := by
  obtain ⟨i, poll⟩ | ⟨i, probe⟩ | ends := s.pollPart_cases b k close
  · exact poll ▸ sendFrames s _ fun _ _ => by simp
  · exact probe ▸ sendFrames s _ fun _ _ => by simp
  · exact ends ▸ closes s

theorem visitPart (s : State) (k : Nat) : (s.visitPart b k close).VisitsIn b := by
  obtain ⟨i, visited, visit⟩ | ⟨i, poll⟩ | ⟨i, probe⟩ | ends := s.visitPart_cases b k close
  · exact visit ▸ attempt visited false
  · exact poll ▸ sendFrames s _ fun _ _ => by simp
  · exact probe ▸ sendFrames s _ fun _ _ => by simp
  · exact ends ▸ closes s

theorem afterExchange (s : State) : (s.afterExchange b close).VisitsIn b := by
  obtain ⟨-, walk⟩ | ⟨-, goes_on⟩ := s.afterExchange_cases b close
  · exact walk ▸ startRelease s
  · exact goes_on ▸ closes s

end

theorem beginSweep (s : State) : (s.beginSweep b).VisitsIn b := by
  rw [State.beginSweep_eq]
  exact visitPart closeSweep _ 0

theorem endSweep (s : State) : (s.endSweep b).VisitsIn b := by
  obtain ends | again := s.endSweep_cases b
  · exact ends ▸ closeSweep s
  · exact again ▸ beginSweep (s.closeSweep b)

theorem nextVisit (s : State) (i : Fin 62) : (s.nextVisit b i).VisitsIn b := afterExchange (fun u => visitPart endSweep u _) s

theorem nextPoll (s : State) (i : Fin 62) : (s.nextPoll b i).VisitsIn b := afterExchange (fun u => pollPart endSweep u _) s

theorem afterProbe (s : State) : (s.afterProbe b).VisitsIn b := afterExchange endSweep s

theorem completeWalk (s : State) (n : Nat) : (s.completeWalk b n).VisitsIn b := by
  have entered (u : State) : (u.enterService b).VisitsIn b := beginSweep _
  exact entered (((locsFrom b n).foldl State.markAbsent s).queueNotice (.bus b .enrolDone (some n)))

theorem walkTaken (s : State) (i : Fin 62) (id : Identity) : (s.walkTaken b i id).VisitsIn b := by
  unfold State.walkTaken
  simp only []
  split
  · exact sendFrames _ _ fun _ _ => by simp
  · exact sendFrames _ _ fun _ _ => by simp

/-- A sample leaves exchange and locations, or a brownout ends the exchange (R122, R137). -/
theorem completeSample (h : s.VisitsIn b) (start : Instant) (level : Nat) : (s.completeSample b start level).VisitsIn b := by
  have recorded : (s.recordSample b level).VisitsIn b := h.of_same (by simp) fun i => by simp
  have checked : ((s.recordSample b level).supplyCheck b level).VisitsIn b := by
    unfold State.supplyCheck
    split
    · split
      · exact of_exchange (x := .none) (by simp [State.declareBrownout, State.modBus]) fun _ _ => by simp
      · exact recorded
    · split
      · split
        · refine recorded.of_same ?_ fun i => by simp
          unfold State.recover
          simp only []
          split <;> simp [State.modBus]
        · exact recorded
      · exact recorded
  exact checked.of_same (by simp [State.completeSample]) fun i => by simp [State.completeSample]

end State.VisitsIn

/-- Presence records and tokens are sound, and every visit in progress concerns a location that sweeps visit. -/
structure State.PresenceAgree (s : State) : Prop where
  locs : s.LocsSound
  visiting : ∀ b, s.VisitsIn b

theorem State.presenceAgree_iff (s : State) : s.PresenceAgree ↔ s.PresenceInv ∧ ∀ l, (s.loc l).rot.TokenNamesContent :=
  ⟨fun h => ⟨⟨fun l => (h.locs l).coherent, h.visiting⟩, fun l => (h.locs l).token⟩,
    fun ⟨presence, tokens⟩ => ⟨fun l => ⟨presence.coherent l, tokens l⟩, presence.visiting⟩⟩

namespace State.PresenceAgree

variable {s t : State} {b : Fin 4}

theorem of_alike (h : s.PresenceAgree) (locs : s.LocsAlike t) (buses : ∀ b, (t.bus b).exchange = (s.bus b).exchange) : t.PresenceAgree :=
  ⟨locs.sound h.locs, fun b => (h.visiting b).of_same (buses b) fun _ => (locs _).visited⟩

/-- Nothing that presence, tokens and visits depend on has changed. -/
theorem frame (h : s.PresenceAgree) (locs : t.locs = s.locs) (buses : t.buses = s.buses) : t.PresenceAgree :=
  h.of_alike ((State.LocsAlike.refl s).same locs) fun b => by simp only [State.bus, buses]

/-- An event of one bus. -/
theorem of_bus (h : s.PresenceAgree) (only : OnlyBus b s t) (locs : t.LocsSound) (visits : t.VisitsIn b) : t.PresenceAgree := by
  refine ⟨locs, fun d => ?_⟩
  by_cases here : d = b
  · exact here ▸ visits
  · exact (h.visiting d).of_same (congrArg Bus.exchange (only.blocks d here).1) fun i =>
      congrArg Location.visited (only.locs { bus := d, idx := i } here)

/-- A part without modules and without exchanges. -/
theorem of_initial (locs : ∀ l, t.loc l = Location.initial) (buses : ∀ b, (t.bus b).exchange = .none) : t.PresenceAgree :=
  ⟨fun l => locs l ▸ Location.Sound.initial, fun b => .of_exchange (buses b) fun _ _ => by simp⟩

theorem busStep (h : s.PresenceAgree) (step : BusStep b s t) : t.PresenceAgree := by
  have sound : t.LocsSound ∧ t.VisitsIn b := by
    have locs := h.locs
    cases step with
    | sweep due => exact ⟨locs.beginSweep, .beginSweep s⟩
    | unanswered i second open_ =>
      have visited := h.visiting b i second open_
      refine ⟨locs.visitUnanswered visited second, ?_⟩
      unfold State.visitUnanswered
      split
      · exact .nextVisit _ i
      · split
        · exact .startRelease s
        · exact .attempt visited true
    | identified i id open_ => exact ⟨((locs.goodAnswer).classifyAt _ id false).nextPoll i, .nextPoll _ i⟩
    | unidentified i open_ => exact ⟨locs.nextPoll i, .nextPoll s i⟩
    | probeHere i open_ =>
      have good : (s.goodAnswer b).LocsSound := locs.goodAnswer
      have acked : ((s.goodAnswer b).modLoc { bus := b, idx := i } fun x => { x with ack := true }).LocsSound := by
        obtain ⟨⟨serial, kind, present, suspect, lost, absent, mismatch⟩, named⟩ := good { bus := b, idx := i }
        exact good.setLoc _ ⟨⟨serial, kind, present, suspect, lost, absent, mismatch⟩, named⟩
      exact ⟨State.LocsSound.afterExchange (fun h => h.sendFrames _ _) acked,
        .afterExchange (fun u => .sendFrames u _ fun _ _ => by simp) _⟩
    | probeTaken i second id open_ => exact ⟨((locs.goodAnswer).classifyAt _ id true).afterProbe, .afterProbe _⟩
    | probeAgain i open_ =>
      exact ⟨State.LocsSound.afterExchange (fun h => h.sendFrames _ _) locs,
        .afterExchange (fun u => .sendFrames u _ fun _ _ => by simp) s⟩
    | probeEnds open_ => exact ⟨locs.afterProbe, .afterProbe s⟩
    | tooLong open_ =>
      have told : ((s.goodAnswer b).queueNotice (.bus b .chainTooLong none)).LocsSound := locs.of_locs (by simp)
      exact ⟨told.completeWalk 62, .completeWalk _ 62⟩
    | walkEnds k open_ => exact ⟨locs.completeWalk k, .completeWalk s k⟩
    | walkTaken i second id open_ => exact ⟨locs.walkTaken i id, .walkTaken s i id⟩
    | walkAgain i open_ => exact ⟨locs.sendFrames _ _, .sendFrames s _ fun _ _ => by simp⟩
    | enrHigh running =>
      have high : (s.modBus b fun c => { c with enrLowEnd := none }).LocsSound := locs.of_locs rfl
      exact ⟨high.sendFrames _ _, .sendFrames _ _ fun _ _ => by simp⟩
    | waitEnds running => exact ⟨locs.startRelease, .startRelease s⟩
    | resettingEnds running =>
      have closed : (s.modFeed b fun f => { f with switchClosed := true }).LocsSound := locs.of_locs rfl
      exact ⟨closed.startRelease, .startRelease _⟩
    | sampleStarts due => exact ⟨locs.of_locs rfl, (h.visiting b).of_same rfl fun i => rfl⟩
    | sampleCompletes start supply running => exact ⟨locs.completeSample start _, (h.visiting b).completeSample start _⟩
    | flips =>
      refine ⟨locs.of_locs (by simp), (h.visiting b).of_same ?_ fun i => by simp⟩
      unfold State.flipPhase
      split
      · rfl
      · split
        · simp [State.modBus]
        · rfl
  exact h.of_bus (.of_edits step.edits) sound.1 sound.2

theorem visitAnswered (h : s.PresenceAgree) {i : Fin 62} {second : Bool} (open_ : (s.bus b).exchange = .visit i second)
    (e : Option KeyEvent) : (s.visitAnswered { bus := b, idx := i } e).PresenceAgree := by
  obtain ⟨u, v, before, press, after⟩ := visitAnswered_steps s b i e
  exact h.of_bus (((OnlyBus.of_edits before).trans (.of_press rfl press)).trans (.of_edits after))
    (h.locs.visitAnswered (h.visiting b i second open_) e) (.nextVisit _ i)

/-! ### Requests on a bus -/

theorem setSweep (h : s.PresenceAgree) (bus period : Nat) : (s.setSweep bus period).1.PresenceAgree := by
  refine State.withBus_keeps (P := fun r => r.1.PresenceAgree) h fun b => ?_
  split
  · exact h
  · refine h.of_alike ((State.LocsAlike.refl s).same rfl) fun d => ?_
    simp only [State.modBus, State.bus_setBus]
    split
    next here => rw [here]
    next => rfl

theorem enrol (h : s.PresenceAgree) (bus : Nat) : (s.enrolRequest bus).1.PresenceAgree := by
  refine State.withBus_keeps (P := fun r => r.1.PresenceAgree) h fun b => ?_
  split
  · exact h
  · split
    · exact h
    · refine h.of_bus (b := b) (.of_edits (State.SupplyAgree.startEnrol_edits s b)) (h.locs.of_locs (by simp)) ?_
      unfold State.startEnrol
      simp only []
      split
      · exact (h.visiting b).of_same (by simp [State.modBus, State.leaveService]) fun i => by simp
      · exact .startRelease _

theorem resetBus (h : s.PresenceAgree) (bus : Nat) : (s.resetBusRequest bus).1.PresenceAgree := by
  refine State.withBus_keeps (P := fun r => r.1.PresenceAgree) h fun b => ?_
  have resets : ((s.clearBus b).enterResetting b).PresenceAgree :=
    h.of_bus (b := b) (.of_edits (State.SupplyAgree.enterResetting_edits (State.SupplyAgree.clearBus_edits s b)))
      (h.locs.of_locs (by simp)) (.of_exchange (x := .none) (by simp [State.enterResetting, State.modBus]) fun _ _ => by simp)
  have clears : (s.clearBus b).PresenceAgree :=
    h.of_bus (b := b) (.of_edits (State.SupplyAgree.clearBus_edits s b)) (h.locs.of_locs (by simp))
      ((h.visiting b).of_same (by simp [State.clearBus, State.modBus]) fun i => by simp)
  simp only []
  split
  · exact resets
  · exact resets
  · exact resets
  · exact clears
  · exact h
  · exact h

/-! ### Every command -/

theorem owner (h : s.PresenceAgree) {i : Instr} {f : State → State × Answer} (owned : requestOwner i = some f) :
    (f s).1.PresenceAgree := by
  by_cases reset : i = .resetPart
  · subst reset
    cases owned
    refine of_initial (fun l => by simp [State.resetPart, State.commandReset, State.loc]) fun b => ?_
    simp only [State.resetPart, State.commandReset, State.bus, Vector.getElem_ofFn, State.commandResetBus]
    split <;> rfl
  · have alike := State.LocsAlike.owner owned reset s
    cases i <;> cases owned
    case neg.resetPart => exact absurd rfl reset
    case neg.setSweep bus period => exact h.setSweep bus period
    case neg.enrol bus => exact h.enrol bus
    case neg.resetBus bus => exact h.resetBus bus
    all_goals exact h.of_alike alike fun b => by simp

theorem settleOutbound (h : s.PresenceAgree) (o : Outbound) (count : Nat) : (s.settleOutbound o count).PresenceAgree := by
  unfold State.settleOutbound
  simp only []
  split
  · cases o with
    | empty => exact h.frame rfl rfl
    | answer a => exact h.frame rfl rfl
    | notice e =>
      unfold State.removeNotice
      simp only []
      split
      · exact h.frame rfl rfl
      · exact h.frame rfl rfl
  · exact h.frame rfl rfl

theorem line (h : s.PresenceAgree) (step : LineStep s t) : t.PresenceAgree := by
  cases step with
  | hold => exact of_initial (fun l => by simp [State.hold, State.reset, State.loc]) fun b => by simp [State.hold, State.bus, Bus.initial]
  | release held =>
    exact of_initial (fun l => by simp [State.released, State.latchStrap, State.hold, State.reset, State.loc])
      fun b => by simp [State.released, State.bus, Bus.initial]
  | lines dark lamptest => exact h.frame rfl rfl
  | fallInReset => exact h.frame rfl rfl
  | fall working => exact h.frame rfl rfl
  | firstByte kind => exact h.frame rfl rfl
  | riseAlone none => exact h.frame rfl rfl
  | rise o further inProgress =>
    have before : State.PresenceAgree { s with lcs := true } := h.frame rfl rfl
    exact State.completeTransaction_keeps (fun _ _ h => h.frame rfl rfl) (fun _ o n h => h.settleOutbound o n)
      (fun _ _ _ owned _ h => h.owner owned) before o further

theorem exec {c : Instr} (ran : exec c s = .next t) (h : s.PresenceAgree) : t.PresenceAgree := by
  obtain rfl | ⟨-, rfl⟩ | line | ⟨b, moved⟩ | ⟨b, i, second, e, open_, rfl⟩ := exec_cases ran
  · exact h
  · exact State.runRequest_keeps (fun _ _ h => h.frame rfl rfl) h (fun _ _ owned _ => h.owner owned) c
  · exact h.line line
  · exact h.busStep moved
  · exact h.visitAnswered open_ e

end State.PresenceAgree

/-- Settles O56: `State.PresenceAgree` is kept by every command. Requests leave presence and token maps (`State.LocsAlike.owner`), and
each part of a sweep opens an exchange of its own (`State.VisitsIn`). -/
theorem stepKeepsLocationsCoherent : Obligations.StepKeepsLocationsCoherent := by
  intro s t presence tokens ran
  exact (State.presenceAgree_iff t).1 (step_keeps (P := State.PresenceAgree) (fun _ _ h => h.frame rfl rfl)
    (fun _ _ h => h.frame rfl rfl) (fun _ _ _ => State.PresenceAgree.exec) ran ((State.presenceAgree_iff s).2 ⟨presence, tokens⟩))

end Sys2Proof.Machine
end

section
/-! The step, the resets, the mode lines, and the state right after reset. Settles O1, O2, O3, O4 and O58. -/

namespace Sys2Proof.Machine

open Sys2Proof.Claims

/-! ### The step -/

/-- Settles O1. -/
theorem stepRunsFrontCommandOrCountsTime : Obligations.StepRunsFrontCommandOrCountsTime := by
  refine ⟨fun c rest s front => ?_, fun s idle => ⟨fun working => ?_, fun held => ?_⟩⟩
  · simp only [step, front]
  · simp [step, idle, State.tick, working]
  · simp [step, idle, State.tick, held]

theorem Edits.pending {b : Fin 4} {s t : State} (h : Edits b s t) : t.pending = s.pending := by
  induction h with
  | refl => rfl
  | setBus x _ ih => exact ih
  | setFeed x _ ih => exact ih
  | setGovernor x _ ih => exact ih
  | setLoc l x _ _ _ ih => exact ih
  | mapLocs f _ _ ih => exact ih
  | notice n _ ih => simpa using ih

theorem PressStep.pending {l : Loc} {s t : State} (h : PressStep l s t) : t.pending = s.pending := by
  cases h with
  | silent => rfl
  | told n => simp
  | held t press _ _ _ _ => simp
  | confirmed t _ _ _ => simp
  | minus t _ _ => simp
  | plus t _ _ => simp

theorem owner_pending {i : Instr} {f : State → State × Answer} (owned : requestOwner i = some f) (s : State) :
    (f s).1.pending = s.pending := by
  cases i <;> cases owned
  case resetPart => rfl
  all_goals simp

theorem LineStep.pending {s t : State} (h : LineStep s t) : t.pending = s.pending := by
  cases h with
  | rise o further inProgress =>
    refine State.completeTransaction_keeps (P := fun u => u.pending = s.pending) (s := { s with lcs := true })
      (fun _ _ h => h) (fun u o n h => ?_) (fun u i f owned _ h => ?_) rfl o further
    · unfold State.settleOutbound State.removeNotice
      simp only []
      repeat' split
      all_goals exact h
    · exact (owner_pending owned u).trans h
  | _ => rfl

theorem exec_next (c : Instr) (s : State) : ∃ t, exec c s = .next t := by cases c <;> exact ⟨_, rfl⟩

/-- Settles O2: every command answers a next state, and none of the effects of `exec_cases` touches the queue of commands. -/
theorem everyCommandRunsAndLeavesTheQueue : Obligations.EveryCommandRunsAndLeavesTheQueue := by
  intro c s
  obtain ⟨t, ran⟩ := exec_next c s
  refine ⟨t, ran, ?_⟩
  obtain rfl | ⟨-, rfl⟩ | line | ⟨b, moved⟩ | ⟨b, i, second, e, -, rfl⟩ := exec_cases ran
  · rfl
  · simp
  · exact line.pending
  · exact moved.edits.pending
  · obtain ⟨u, v, before, press, after⟩ := visitAnswered_steps s b i e
    exact after.pending.trans (press.pending.trans before.pending)

/-! ### Resets -/

theorem State.loc_hold (s : State) (l : Loc) : s.hold.loc l = Location.initial := by simp [State.hold, State.reset, State.loc]

theorem State.bus_hold (s : State) (b : Fin 4) : s.hold.bus b = Bus.initial .off := by simp [State.hold, State.bus]

theorem State.feed_hold (s : State) (b : Fin 4) : s.hold.feed b = Feed.initial none := by simp [State.hold, State.feed]

/-- A part held in reset drives no line (R170, R171, R174). -/
theorem State.lines_of_held {s : State} (held : s.held = true) :
    s.rdy = false ∧ s.attn = false ∧ (∀ n, s.ldo n = none) ∧ ∀ b n, s.de b n = false := by
  refine ⟨by simp [State.rdy, State.ready, held], by simp [State.attn, held], fun n => by simp [State.ldo, held], fun b n => ?_⟩
  simp [State.de, State.pairSlot, held]
  rfl

/-- Settles O3. -/
theorem heldResetClearsThePart : Obligations.HeldResetClearsThePart := by
  intro c s reset
  have ran : exec c s = .next s.hold := by
    obtain rfl | rfl := reset
    · rfl
    · rfl
  refine ⟨s.hold, ran, rfl, fun l => ?_, fun b => ⟨?_, ?_, ?_, ?_⟩, State.lines_of_held rfl⟩
  · rw [State.loc_hold]
    exact ⟨rfl, rfl, rfl, rfl, rfl, rfl, rfl⟩
  · exact s.bus_hold b
  · exact s.feed_hold b
  · rw [State.fsw, State.feed_hold]
    rfl
  · simp [State.enr, State.hold]

theorem State.inService_iff (s : State) (b : Fin 4) : s.inService b = true ↔ b.val < s.busesInService := decide_eq_true_iff

/-- Settles O4. -/
theorem releaseLatchesStrapAndLinesTakeLevels : Obligations.ReleaseLatchesStrapAndLinesTakeLevels := by
  refine ⟨fun s => ⟨fun held => ?_, fun working => ?_⟩, fun dark lamptest s => rfl⟩
  · have ran : exec .resetRelease s = .next s.released := by
      change execResetRelease s = _
      simp [execResetRelease, held]
    refine ⟨s.released, ran, rfl, ?_, fun i => ?_, fun l => ?_, fun b => ⟨?_, ?_, ?_⟩, rfl, rfl, fun ms0 ms1 lcs idle => ?_⟩
    · change 1 + s.ms0.toNat + 2 * s.ms1.toNat = _
      cases s.ms0 <;> cases s.ms1 <;> rfl
    · simp [State.released, State.latchStrap, State.hold, State.reset, State.session]
    · exact s.loc_hold l
    · simp [State.released, State.latchStrap, State.hold, State.reset, State.governor]
    · simp only [State.released, State.bus, Vector.getElem_ofFn, State.inService_iff]
      rfl
    · simp only [State.released, State.feed, Vector.getElem_ofFn, State.inService_iff]
      rfl
    · have every : ∀ b : Fin 4, s.hold.latchStrap.inService b = true := by
        simp [State.inService, State.busesInService, State.latchStrap, State.hold, ms0, ms1]
      simp only [State.released, every, if_true]
      simp [State.latchStrap, State.hold, State.reset, ms0, ms1, lcs, idle, Vector.ext_iff]
  · change execResetRelease s = _
    simp [execResetRelease, working]

/-! ### The state right after reset -/

theorem State.reset_initial (l : Loc) (b : Fin 4) (i : Fin 8) :
    State.reset.loc l = Location.initial ∧ State.reset.bus b = Bus.initial .unpowered ∧ State.reset.feed b = Feed.initial (some 0) ∧
    State.reset.governor b = Governor.initial ∧ State.reset.session i = Session.initial := by
  simp [State.reset, State.loc, State.bus, State.feed, State.governor, State.session]

/-- Settles O58. -/
theorem resetMeetsEveryAgreement : Obligations.ResetMeetsEveryAgreement := by
  have blocks (l : Loc) (b : Fin 4) (i : Fin 8) := State.reset_initial l b i
  have supply : State.reset.SupplyAgree :=
    .of_initial (fun _ => .unpowered) (fun _ => none) (fun _ => some 0) (fun d => (blocks ⟨d, 0⟩ d 0).2.1)
      (fun d => (blocks ⟨d, 0⟩ d 0).2.2.1) (fun d => (blocks ⟨d, 0⟩ d 0).2.2.2.1) rfl (fun _ => .inr (.inl ⟨rfl, rfl⟩)) (by decide)
  have presence : State.reset.PresenceAgree := .of_initial (fun l => (blocks l 0 0).1) fun b => by rw [(blocks ⟨b, 0⟩ b 0).2.1]; rfl
  have store : State.reset.StoreAgree := .of_initial
    (.of_initial (fun i => (blocks ⟨0, 0⟩ 0 i).2.2.2.2) rfl fun l => by rw [(blocks l 0 0).1]; rfl) rfl
  obtain ⟨locs, tokens⟩ := (State.presenceAgree_iff _).1 presence
  obtain ⟨sessions, tasks⟩ := (State.storeAgree_iff _).1 store
  exact ⟨Nat.zero_le 4, State.KeepsQueues.initial_inOrder 0, (State.outboundInPlace_none rfl).2 rfl, supply.supply, supply.ranges,
    locs, tokens, sessions, tasks⟩

end Sys2Proof.Machine
end

section
/-! Requests as bytes, and their fate in a transaction (R162 to R169, R176 to R178). Settles O5, O6, O7, O8 and O51. -/

namespace Sys2Proof.Machine

open Sys2Proof.Claims

/-! ### Requests as bytes (R168, R169, R176, R178) -/

theorem byteValue_ofNat {n : Nat} (fits : n < 256) : byteValue (BitVec.ofNat 8 n) = n := by
  rw [byteValue, BitVec.toNat_ofNat]
  omega

theorem wordValue_ofNat {n : Nat} (fits : n < 65536) : wordValue (BitVec.ofNat 8 n) (BitVec.ofNat 8 (n / 256)) = n := by
  rw [wordValue, BitVec.toNat_ofNat, BitVec.toNat_ofNat]
  omega

theorem byteValue_lt (b : Byte) : byteValue b < 256 := b.isLt

theorem wordValue_lt (lo hi : Byte) : wordValue lo hi < 65536 := by
  have := lo.isLt
  have := hi.isLt
  unfold wordValue
  omega

theorem u8Bytes_byteValue (b : Byte) : u8Bytes (byteValue b) = [b] := by simp [u8Bytes, byteValue]

theorem u16Bytes_wordValue (lo hi : Byte) : u16Bytes (wordValue lo hi) = [lo, hi] := by
  have hlo := lo.isLt
  have hhi := hi.isLt
  have low : BitVec.ofNat 8 (wordValue lo hi) = lo := by
    apply BitVec.eq_of_toNat_eq
    rw [wordValue, BitVec.toNat_ofNat]
    omega
  have high : BitVec.ofNat 8 (wordValue lo hi / 256) = hi := by
    apply BitVec.eq_of_toNat_eq
    rw [wordValue, BitVec.toNat_ofNat]
    omega
  rw [u16Bytes, low, high]

/-- A request written is read back as the same request. -/
theorem decodeRequest_encodeRequest {i : Instr} {kind : Nat} {body : List Byte} (fits : i.wf = true)
    (written : encodeRequest i = some (kind, body)) : decodeRequest kind body = some i := by
  cases i <;> cases written
  all_goals simp only [Instr.wf, fitsU8, fitsU16, Bool.and_eq_true, decide_eq_true_eq] at fits
  all_goals simp [decodeRequest, u8Bytes, u16Bytes, byteValue_ofNat, wordValue_ofNat, fits]

/-- What reads as a request has the length of its kind, and is what the request is written with. -/
theorem encodeRequest_decodeRequest {i : Instr} {kind : Nat} {body : List Byte} (read : decodeRequest kind body = some i) :
    encodeRequest i = some (kind, body) ∧ i.wf = true ∧ requestLength kind = some body.length ∧ body.length ≤ 60 ∧ 0 < kind ∧
    kind < 128 := by
  unfold decodeRequest at read
  split at read
  all_goals cases read
  all_goals simp [encodeRequest, u8Bytes_byteValue, u16Bytes_wordValue, Instr.wf, fitsU8, fitsU16, byteValue_lt, wordValue_lt,
    requestLength]

/-- Settles O51. -/
theorem requestDecodeInvertsEncode : Obligations.RequestDecodeInvertsEncode := by
  refine ⟨fun i kind body extra fits written => ?_, fun kind body i read => ?_⟩
  · have read := decodeRequest_encodeRequest fits written
    obtain ⟨-, -, length, short, positive, small⟩ := encodeRequest_decodeRequest read
    refine ⟨length, short, positive, small, ?_⟩
    simp [readRequest, length, read]
  · obtain ⟨written, fits, -⟩ := encodeRequest_decodeRequest read
    exact ⟨written, fits⟩

/-- A request of R169 has an owner. -/
theorem requestOwner_of_encodeRequest {i : Instr} (written : (encodeRequest i).isSome = true) : (requestOwner i).isSome = true := by
  cases i <;> first | rfl | cases written

/-! ### Bits clocked in (R162) -/

theorem rises_eq (lck : Bool) (wave : List LinkPins) : rises lck wave = risingBits lck wave := by
  induction wave generalizing lck with
  | nil => rfl
  | cons p ps ih =>
    have rest : rises lck (p :: ps) =
        (if lck = false ∧ p.lck = true then [p.ldi] else []) ++ rises p.lck ps := by
      simp only [rises, List.map_cons, List.zip_cons_cons, List.filterMap_cons]
      cases lck <;> cases p.lck <;> rfl
    rw [rest, ih]
    cases lck <;> cases high : p.lck <;> simp [risingBits, high]

theorem ldiBytes_short {lck : Bool} {wave : List LinkPins} (few : (rises lck wave).length < 8) : ldiBytes lck wave = [] :=
  wholeBytes_short (rises_eq lck wave ▸ few)

/-- The bytes of a host that begins with LCK low. -/
theorem ldiBytes_linkWave_low (bytes : List Byte) : ldiBytes false (linkWave bytes) = bytes := by
  have high := ldiBytes_linkWave bytes []
  cases bytes with
  | nil => rfl
  | cons x xs =>
    have split : linkWave (x :: xs) = linkWave [x] ++ linkWave xs := by simp [linkWave]
    rw [List.append_nil] at high
    rw [split] at high ⊢
    simp only [ldiBytes, risingBits_linkWave] at high ⊢
    simpa [risingBits, wholeBytes] using high

/-! ### The fall of LCS and its first byte (R156, R163, R164) -/

theorem exec_statusByteComplete {s : State} {wave : List LinkPins} {kind : Byte} {rest : List Byte}
    (inProgress : s.link.outbound.isSome = true) (first : s.link.request = []) (bytes : ldiBytes false wave = kind :: rest) :
    exec (.statusByteComplete wave) s = .next (s.firstByte kind) := by
  change execStatusByteComplete wave s = _
  simp [execStatusByteComplete, bytes, inProgress, first]

/-- The layout of the status byte (R177). -/
theorem State.statusByte_layout {s : State} (room : s.link.replies.length ≤ 4) :
    s.statusByte.extractLsb' 6 2 = BitVec.ofNat 2 s.link.lastOutcome.code ∧
    s.statusByte.extractLsb' 3 3 = BitVec.ofNat 3 s.link.replies.length ∧
    s.statusByte.getLsbD 1 = s.notices.lost ∧ s.statusByte.getLsbD 0 = true := by
  have outcome : s.link.lastOutcome.code < 4 := by cases s.link.lastOutcome <;> decide
  have few : s.link.replies.length < 5 := by omega
  unfold State.statusByte
  generalize s.link.lastOutcome.code = code at *
  generalize s.link.replies.length = answers at *
  generalize s.notices.candidate.isSome = waiting
  generalize s.notices.lost = lost
  clear room
  interval_cases code <;> interval_cases answers <;> cases waiting <;> cases lost <;> decide

theorem NoticeQueue.candidate_isSome (q : NoticeQueue) :
    q.candidate.isSome = q.entries.any fun x => decide (q.mask < x.priority) := by
  rw [NoticeQueue.candidate, Bool.eq_iff_iff, List.find?_isSome, List.any_eq_true]

/-- A notice offered to a full queue sets LOST and clears the shown mark, so the first byte leaves LOST (R155, R156). -/
theorem State.queueNotice_full {s : State} {n : Notice} (made : s.notices.classes.get n.cls ≠ 0) (full : 32 ≤ s.notices.entries.length)
    (closure : Option Nat) : (s.queueNotice n closure).notices.lost = true ∧ (s.queueNotice n closure).link.shown = false ∧
    (s.queueNotice n closure).link.outbound = s.link.outbound ∧ (s.queueNotice n closure).link.request = s.link.request := by
  have dropped (e : Entry) : (s.notices.offer e).1.lost = true ∧ (s.notices.offer e).2 = true := by
    unfold NoticeQueue.offer
    rw [if_neg (Nat.not_lt.2 full)]
    split
    · exact ⟨rfl, rfl⟩
    · split
      · exact ⟨rfl, rfl⟩
      · exact ⟨rfl, rfl⟩
  rw [State.queueNotice_eq, if_neg made]
  obtain ⟨lost, drop⟩ := dropped { notice := n, priority := s.notices.classes.get n.cls, stamp := s.now % 65536, age := s.notices.nextAge, closure := closure }
  simp [lost, drop]

theorem State.beginTransaction_eq {s : State} (working : s.held = false) :
    ({ s with lcs := false } : State).beginTransaction = { s with
      lcs := false,
      link := { s.link with request := [], readySample := decide (s.link.replies.length < 4), outbound := some s.chooseOutbound,
                            status := s.statusByte, shown := s.notices.lost },
      notices := { s.notices with transmitting := s.chooseOutbound.transmits } } := by
  have ready : ({ s with lcs := false } : State).ready = decide (s.link.replies.length < 4) := by simp [State.ready, working]
  unfold State.beginTransaction
  rw [ready]
  rfl

/-- Settles O5. -/
theorem fallFormsStatusAndItsByteClearsLost : Obligations.FallFormsStatusAndItsByteClearsLost := by
  refine ⟨fun s working high room => ?_, fun s wave few => ?_, fun s wave kind rest inProgress first bytes => ⟨?_, ?_⟩⟩
  · obtain ⟨outcome, answers, lost, one⟩ := State.statusByte_layout room
    have ran := State.exec_lcsFall s working high
    rw [State.beginTransaction_eq working] at ran
    have chosen (o : Outbound) (h : s.chooseOutbound = o) : some s.chooseOutbound = some o ∧ s.chooseOutbound.transmits = o.transmits := by
      rw [h]
      exact ⟨rfl, rfl⟩
    refine ⟨_, ran, rfl, fun a as waiting => chosen _ ?_, fun e none candidate => chosen _ ?_, fun none low => chosen _ ?_, outcome,
      answers, ?_, lost, one⟩
    · simp [State.chooseOutbound, waiting]
    · simp [State.chooseOutbound, none, NoticeQueue.candidate, candidate]
    · have candidate : s.notices.candidate = .none := List.find?_eq_none.2 fun x hx => by simpa using low x hx
      simp [State.chooseOutbound, none, candidate]
    · exact (State.statusByte_notice s).trans (NoticeQueue.candidate_isSome _)
  · change execStatusByteComplete wave s = _
    simp [execStatusByteComplete, ldiBytes_short few]
  · exact exec_statusByteComplete inProgress first bytes
  · intro n closure made full
    obtain ⟨lost, shown, outbound, request⟩ := State.queueNotice_full made full closure
    refine ⟨_, exec_statusByteComplete (outbound ▸ inProgress) (request.trans first) bytes, ?_⟩
    simp [State.firstByte, lost, shown]

/-! ### The rise of LCS (R165, R166) -/

theorem exec_lcsRise {s : State} {o : Outbound} (inProgress : s.link.outbound = some o) (wave : List LinkPins) :
    exec (.lcsRise wave) s = .next (({ s with lcs := true } : State).completeTransaction o (ldiBytes true wave)) := by
  change execLcsRise wave s = _
  simp [execLcsRise, inProgress]

/-- The checks of R165, in order. -/
theorem requestFate_eq (bytes : List Byte) (ready : Bool) :
    requestFate bytes ready = if bytes = [] ∨ bytes.head? = some 0 then LinkOutcome.none
      else if ready = false then .notReady
      else if bytes.length < 2 ∨ ((bytes.getD 1 0).toNat ≤ 60 ∧ bytes.length < 2 + (bytes.getD 1 0).toNat) then .short
      else .taken := by
  match bytes with
  | [] => simp [requestFate]
  | [kind] => cases ready <;> simp [requestFate]
  | kind :: length :: body =>
    have room : body.length + 1 + 1 < 2 + length.toNat ↔ body.length < length.toNat := by omega
    cases ready <;> simp [requestFate, room]

theorem State.clockedBytes_eq (s : State) (further : List Byte) :
    s.clockedBytes further = if s.link.request = [] then [] else s.link.request ++ further := by
  unfold State.clockedBytes
  split
  next none => rw [if_pos none]
  next some => rw [if_neg some]

/-- What step 1 of R166 leaves of the link port and the reset. -/
theorem State.settleOutbound_link (s : State) (o : Outbound) (n : Nat) :
    (s.settleOutbound o n).held = s.held ∧ (s.settleOutbound o n).link.readySample = s.link.readySample ∧
    (s.settleOutbound o n).lcs = s.lcs ∧ (s.settleOutbound o n).link.replies.length ≤ s.link.replies.length := by
  unfold State.settleOutbound State.removeNotice
  simp only []
  repeat' split
  all_goals simp

theorem State.request_outcome {s : State} (takes : Takes s) (f : State → State × Answer) (same : (f s).1.lcs = s.lcs) :
    (s.request f).link.lastOutcome = .taken ∧ (s.request f).lcs = s.lcs := by
  rw [State.request_taken s takes.1 takes.2]
  exact ⟨rfl, same⟩

/-- A request taken leaves the outcome TAKEN and the line LCS. -/
theorem State.runTaken_outcome {s : State} (takes : Takes s) {kind length : Byte} {body : List Byte} :
    (s.runTaken (kind :: length :: body)).link.lastOutcome = .taken ∧ (s.runTaken (kind :: length :: body)).lcs = s.lcs := by
  unfold State.runTaken
  simp only []
  split
  · exact State.request_outcome takes _ rfl
  · exact State.request_outcome takes _ rfl
  next i read =>
    have known : (requestOwner i).isSome = true := by
      unfold readRequest at read
      split at read
      · exact nomatch read
      · split at read
        · split at read
          next j spelt =>
            obtain rfl := LinkRequest.request.inj read
            exact requestOwner_of_encodeRequest (by rw [(encodeRequest_decodeRequest spelt).1]; rfl)
          next => exact nomatch read
        · exact nomatch read
    obtain ⟨f, owned⟩ := Option.isSome_iff_exists.1 known
    refine ⟨?_, by simp⟩
    rw [State.runRequest_of_owner owned, State.request_taken s takes.1 takes.2]

theorem requestFate_taken {bytes : List Byte} {ready : Bool} (taken : requestFate bytes ready = .taken) :
    ready = true ∧ ∃ kind length body, bytes = kind :: length :: body := by
  unfold requestFate at taken
  split at taken
  · exact nomatch taken
  · split at taken
    · exact nomatch taken
    · split at taken
      · exact nomatch taken
      next ready =>
        split at taken
        · exact nomatch taken
        · exact ⟨by simpa using ready, _, _, _, rfl⟩

/-- A request that is not taken leaves its outcome. -/
theorem State.decideRequest_of_not_taken {u : State} {bytes : List Byte} (refused : requestFate bytes u.link.readySample ≠ .taken) :
    u.decideRequest bytes = { u with link := { u.link with lastOutcome := requestFate bytes u.link.readySample } } := by
  unfold State.decideRequest
  split
  next taken => exact absurd taken refused
  next fate => rw [fate]
  next fate => rw [fate]
  next fate => rw [fate]

/-- Step 2 of R166 leaves the outcome of R165. -/
theorem State.decideRequest_outcome {u : State} {bytes : List Byte} (working : u.held = false)
    (ready : u.link.readySample = true → u.link.replies.length < 4) :
    (u.decideRequest bytes).link.lastOutcome = requestFate bytes u.link.readySample ∧ (u.decideRequest bytes).lcs = u.lcs := by
  by_cases taken : requestFate bytes u.link.readySample = .taken
  · obtain ⟨sampled, kind, length, body, rfl⟩ := requestFate_taken taken
    unfold State.decideRequest
    simp only [taken]
    exact State.runTaken_outcome ⟨working, ready sampled⟩
  · rw [State.decideRequest_of_not_taken taken]
    exact ⟨rfl, rfl⟩

/-- Settles O6. -/
theorem requestFateFollowsTable : Obligations.RequestFateFollowsTable := by
  refine ⟨fun lck wave => ?_, fun bytes => ⟨ldiBytes_linkWave_low bytes, fun tail few => ?_⟩, ?_⟩
  · rw [rises_eq]
    exact ⟨wholeBytes_length _, wholeBytes_bit _⟩
  · rw [ldiBytes_linkWave, ldiBytes_short few, List.append_nil]
  · intro s o wave bytes working inProgress ready clocked
    have clocked : ({ s with lcs := true } : State).clockedBytes (ldiBytes true wave) = bytes :=
      (State.clockedBytes_eq _ _).trans clocked.symm
    have ran := exec_lcsRise inProgress wave
    simp only [State.completeTransaction, clocked] at ran
    obtain ⟨held, sample, lcs, fewer⟩ := State.settleOutbound_link { s with lcs := true } o bytes.length
    generalize ({ s with lcs := true } : State).settleOutbound o bytes.length = u at *
    obtain ⟨outcome, low⟩ := State.decideRequest_outcome (u := u) (bytes := bytes) (held.trans working)
      fun sampled => fewer.trans_lt (ready (sample ▸ sampled))
    have fate : requestFate bytes u.link.readySample = _ := (congrArg (requestFate bytes) sample).trans (requestFate_eq bytes _)
    refine ⟨_, _, ran, outcome, low.trans lcs, fate, fun refused => ?_⟩
    rw [State.decideRequest_of_not_taken refused]
    rfl

/-! ### Transactions that carry a request (R166) -/

/-- A request of R169 as its owner runs it. -/
theorem exec_of_encodeRequest {i : Instr} {kind : Nat} {body : List Byte} (written : encodeRequest i = some (kind, body)) (s : State) :
    exec i s = .next (s.runRequest i) := exec_request (requestOwner_of_encodeRequest (by rw [written]; rfl)) s

theorem State.runTaken_request {s : State} {kind length : Byte} {body : List Byte} {i : Instr}
    (read : readRequest kind.toNat length.toNat body = .request i) : s.runTaken (kind :: length :: body) = s.runRequest i := by
  simp only [State.runTaken, read]

/-- A transaction whose bytes fill a request runs it after step 1 of R166. -/
theorem exec_lcsRise_taken {s : State} {o : Outbound} {kind : Byte} {wave : List LinkPins} {rest : List Byte}
    (inProgress : s.link.outbound = some o) (ready : s.link.readySample = true) (first : s.link.request = [kind])
    (clocked : ldiBytes true wave = rest) (taken : requestFate (kind :: rest) true = .taken) :
    exec (.lcsRise wave) s =
      .next ((({ s with lcs := true } : State).settleOutbound o (1 + rest.length)).runTaken (kind :: rest)).endTransaction := by
  have bytes : ({ s with lcs := true } : State).clockedBytes (ldiBytes true wave) = kind :: rest := by
    rw [State.clockedBytes_eq, clocked]
    simp [first]
  have sample := (State.settleOutbound_link { s with lcs := true } o (1 + rest.length)).2.1
  rw [exec_lcsRise inProgress, State.completeTransaction, bytes]
  simp only [List.length_cons, Nat.add_comm rest.length 1, State.decideRequest, sample, ready, taken]

/-- Settles O7. -/
theorem riseRunsTheRequestItCarries : Obligations.RiseRunsTheRequestItCarries := by
  intro s o i kind rest extra wave working fits inProgress ready room written first clocked
  unfold requestBytes at written
  split at written
  next k body encoded =>
    obtain ⟨rfl, rfl⟩ := List.cons.inj written
    obtain ⟨length, short, positive, small, read⟩ := requestDecodeInvertsEncode.1 i k body extra fits encoded
    have kindValue : (BitVec.ofNat 8 k).toNat = k := by rw [BitVec.toNat_ofNat]; omega
    have lengthValue : (BitVec.ofNat 8 body.length).toNat = body.length := by rw [BitVec.toNat_ofNat]; omega
    have nonzero : BitVec.ofNat 8 k ≠ 0 := fun zero => by simp [zero] at kindValue; omega
    have taken : requestFate (BitVec.ofNat 8 k :: BitVec.ofNat 8 body.length :: (body ++ extra)) true = .taken := by
      simp only [requestFate, if_neg nonzero, Bool.not_true, Bool.false_eq_true, if_false, lengthValue, List.length_append]
      exact if_neg fun h => by omega
    have ran := exec_lcsRise_taken inProgress ready first clocked taken
    have count : 1 + (BitVec.ofNat 8 body.length :: body ++ extra).length =
        1 + (BitVec.ofNat 8 body.length :: body).length + extra.length := by rw [List.length_append, Nat.add_assoc]
    have runs (u : State) : u.runTaken (BitVec.ofNat 8 k :: (BitVec.ofNat 8 body.length :: body ++ extra)) = u.runRequest i :=
      State.runTaken_request (by rw [kindValue, lengthValue]; exact read)
    rw [count, runs] at ran
    exact ⟨_, _, ran, exec_of_encodeRequest encoded _, rfl⟩
  next => exact nomatch written

section

variable {s : State} {o : Outbound} {n : Nat}

/-- A record that is not clocked out in full stays (R157). -/
theorem State.settleOutbound_short (short : ¬1 + o.bytes.length ≤ n) :
    s.settleOutbound o n = { s with notices := { s.notices with transmitting := none } } := by
  simp only [State.settleOutbound, sentInFull, short, decide_false, Bool.false_eq_true, if_false]

theorem State.settleOutbound_answer {a : Answer} (full : 1 + (Outbound.answer a).bytes.length ≤ n) :
    s.settleOutbound (.answer a) n = { s with
      notices := { s.notices with transmitting := none }, link := { s.link with replies := s.link.replies.tail } } := by
  simp only [State.settleOutbound, sentInFull, full, decide_true, if_true, List.drop_one]

/-- A notice clocked out in full leaves the queue, and a TASK_CLOSED frees the record still CLOSED from its closure (R40). -/
theorem State.settleOutbound_notice {e : Entry} (full : 1 + (Outbound.notice e).bytes.length ≤ n) :
    s.settleOutbound (.notice e) n = { s with
      notices := { s.notices with transmitting := none, entries := s.notices.entries.filter fun x => x.age ≠ e.age },
      tasks := s.tasks.filter fun u => ¬(u.state = .closed ∧ e.closure.isSome ∧ u.closure = e.closure) } := by
  have same (x : Entry) : (x.age != e.age) = decide (x.age ≠ e.age) := by
    rw [Bool.eq_iff_iff, bne_iff_ne, decide_eq_true_iff]
  simp only [State.settleOutbound, sentInFull, full, decide_true, if_true, State.removeNotice, same]
  cases e.closure with
  | none => simp
  | some k =>
    have frees (u : Task) : (!(u.state == .closed && u.closure == some k)) =
        decide ¬(u.state = .closed ∧ (some k).isSome = true ∧ u.closure = some k) := by
      by_cases closed : u.state = .closed <;> by_cases named : u.closure = some k <;> simp [closed, named]
    simp only [frees]

theorem State.settleOutbound_empty : s.settleOutbound .empty n = { s with notices := { s.notices with transmitting := none } } := by
  simp only [State.settleOutbound]
  split <;> rfl

end

/-- Settles O8. -/
theorem outboundRecordRemovedOnlyInFull : Obligations.OutboundRecordRemovedOnlyInFull := by
  intro s o further wave working inProgress first clocked
  have bytes : ({ s with lcs := true } : State).clockedBytes (ldiBytes true wave) = 0#8 :: further := by
    rw [State.clockedBytes_eq, clocked]
    simp [first]
  have ran : exec (.lcsRise wave) s = .next
      ((({ s with lcs := true } : State).settleOutbound o (further.length + 1)).decideRequest (0#8 :: further)).endTransaction := by
    rw [exec_lcsRise inProgress, State.completeTransaction, bytes]
    rfl
  have fate (ready : Bool) : requestFate (0#8 :: further) ready = .none := by simp [requestFate]
  rw [State.decideRequest_of_not_taken (by rw [fate]; decide), fate] at ran
  refine ⟨_, ran, ?_⟩
  by_cases full : 1 + o.bytes.length ≤ further.length + 1
  · have short : ¬further.length < o.bytes.length := by omega
    cases o with
    | answer a =>
      rw [State.settleOutbound_answer full]
      exact ⟨rfl, fun h => absurd h short, fun _ => ⟨fun _ _ => ⟨rfl, rfl, rfl⟩, fun _ h => (nomatch h), fun h => (nomatch h)⟩⟩
    | notice e =>
      rw [State.settleOutbound_notice full]
      refine ⟨rfl, fun h => absurd h short, fun _ => ⟨fun _ h => (nomatch h), fun x h => ?_, fun h => (nomatch h)⟩⟩
      obtain rfl := Outbound.notice.inj h
      exact ⟨rfl, rfl, rfl⟩
    | empty =>
      rw [State.settleOutbound_empty]
      exact ⟨rfl, fun h => absurd h short, fun _ => ⟨fun _ h => (nomatch h), fun _ h => (nomatch h), fun _ => ⟨rfl, rfl, rfl⟩⟩⟩
  · rw [State.settleOutbound_short full]
    exact ⟨rfl, fun _ => ⟨rfl, rfl, rfl⟩, fun h => absurd h (by omega)⟩

end Sys2Proof.Machine
end

section
/-! Answers: refusals, unknown kinds and wrong lengths (R165 to R168). Settles O29 and O30. -/

namespace Sys2Proof.Machine

open Sys2Proof.Claims

/-- An answer of a request kind, with which a refusal leaves the part as it was (R3, R24, R168). -/
def Answers (kind : Nat) (s : State) (r : State × Answer) : Prop := r.2.kind = kind + 0x80 ∧ (r.2.result ≠ .ok → r.1 = s)

namespace Answers

variable {s t : State} {kind : Nat}

theorem refuse (reason : Reason) (fields : List Field := []) : Answers kind s (s.refuse kind reason fields) := ⟨rfl, fun _ => rfl⟩

theorem ok (fields : List Field) : Answers kind s (t, answerOf kind .ok fields) := ⟨rfl, fun refused => absurd rfl refused⟩

theorem withSlot {slot : Nat} {f : Fin 8 → State × Answer} (body : ∀ i, Answers kind s (f i)) : Answers kind s (s.withSlot kind slot f) :=
  State.withSlot_keeps (refuse _) body

theorem withBus {bus : Nat} {f : Fin 4 → State × Answer} (body : ∀ b, Answers kind s (f b)) : Answers kind s (s.withBus kind bus f) :=
  State.withBus_keeps (refuse _) body

/-- Every request of R169 answers with its kind, and a refusal changes nothing. -/
theorem owner {i : Instr} {f : State → State × Answer} (owned : requestOwner i = some f) (known : ∀ k, i ≠ .unknownRequest k)
    (s : State) : ∃ k body, encodeRequest i = some (k, body) ∧ Answers k s (f s) := by
  cases i <;> cases owned
  case unknownRequest k => exact absurd rfl (known k)
  all_goals refine ⟨_, _, rfl, ?_⟩
  case setSweep bus period => exact withBus fun b => by split; exacts [refuse _, ok _]
  case setFeed bus capacity mode => exact withBus fun b => by (repeat' split); exacts [refuse _, refuse _, ok _]
  case enrol bus => exact withBus fun b => by (repeat' split); exacts [refuse _, refuse _, ok _]
  case resetBus bus => exact withBus fun b => by dsimp only; split; exacts [ok _, ok _, ok _, ok _, refuse _, refuse _]
  case queryBus bus => exact withBus fun b => ok _
  case openSession slot colour priority => exact withSlot fun i => by (repeat' split); exacts [refuse _, refuse _, refuse _, ok _]
  case grant slot bus first last =>
    exact withSlot fun i => by dsimp only; (repeat' split); exacts [refuse _, refuse _, refuse _, refuse _, ok _]
  case revoke slot index => exact withSlot fun i => by dsimp only; (repeat' split); exacts [refuse _, refuse _, refuse _, ok _]
  case setPriority slot priority => exact withSlot fun i => by dsimp only; (repeat' split); exacts [refuse _, refuse _, ok _]
  case suspend slot => exact withSlot fun i => by dsimp only; split; exacts [refuse _, refuse _, ok _]
  case resume slot => exact withSlot fun i => by dsimp only; split; exacts [refuse _, refuse _, ok _]
  case closeSession slot => exact withSlot fun i => by dsimp only; split; exacts [refuse _, ok _]
  case querySession slot => exact withSlot fun i => ok _
  case partStatus => exact ok _
  case resetPart => exact ok _
  case setMask level => exact ok _
  case setTiming cycle minDwell guard hold linger => exact ok _
  case setClass cls priority =>
    simp only [State.setClass]
    split
    · exact refuse _
    · exact ok _
  case queryLocation bus node =>
    simp only [State.queryLocation]
    split
    · exact refuse _
    · exact ok _
  case directSet bus node colour char0 char1 char2 blink =>
    simp only [State.directSet]
    repeat' split
    case h_2.isFalse.isFalse => exact ok _
    all_goals exact refuse _
  case directEnd bus node =>
    simp only [State.directEnd]
    repeat' split
    case h_2.isFalse => exact ok _
    all_goals exact refuse _
  case postTask id slot bus node requested shortMode pred =>
    simp only [State.postTask, State.postAt]
    repeat' split
    case h_2.isFalse.isFalse => exact ok _
    all_goals exact refuse _ _
  case amendTask id requested =>
    simp only [State.amendTask]
    repeat' split
    case h_2.isFalse.isFalse => exact ok _
    all_goals exact refuse _ _
  case withdrawTask id cascade =>
    simp only [State.withdrawTask]
    repeat' split
    case h_2.isFalse.isTrue => exact ok _
    case h_2.isFalse.isFalse.isTrue => exact ok _
    all_goals exact refuse _ _
  case queryTask id =>
    simp only [State.queryTask]
    split
    · exact refuse _
    · exact ok _

end Answers

/-- No request but RESET_PART touches the reply queue (R167, R173). -/
theorem owner_replies {i : Instr} {f : State → State × Answer} (owned : requestOwner i = some f) (s : State) :
    (f s).1.link.replies = if i = .resetPart then [] else s.link.replies := by
  cases i <;> cases owned
  case resetPart => rfl
  all_goals simp

theorem requestOwner_of_isRequest {c : Instr} (request : isRequest c = true) : ∃ f, requestOwner c = some f := by
  refine Option.isSome_iff_exists.1 ?_
  unfold isRequest at request
  rw [Bool.or_eq_true] at request
  obtain written | unknown := request
  · exact requestOwner_of_encodeRequest written
  · cases c <;> first | rfl | cases unknown

/-- Settles O30. -/
theorem everyRequestLeavesOneAnswerOrNone : Obligations.EveryRequestLeavesOneAnswerOrNone := by
  refine ⟨fun c s request takes => ?_, fun c s request => ?_⟩
  all_goals
    obtain ⟨f, owned⟩ := requestOwner_of_isRequest request
    have ran : exec c s = .next (s.request f) := by
      rw [exec_request (by rw [owned]; rfl), State.runRequest_of_owner owned]
  · rw [State.request_taken s takes.1 takes.2] at ran
    have replies := owner_replies owned s
    by_cases unknown : ∃ k, c = .unknownRequest k
    · obtain ⟨k, rfl⟩ := unknown
      cases owned
      exact ⟨_, _, ran, rfl, rfl, rfl, fun _ => rfl⟩
    · obtain ⟨k, body, written, kind, refused⟩ := Answers.owner owned (fun k is => unknown ⟨k, is⟩) s
      refine ⟨_, _, ran, by rw [replies], ?_, rfl, fun h => ?_⟩
      · rw [kind, answerKind, written]
      · rw [refused h]
        rfl
  · refine ⟨fun held => ?_, fun working full => ?_⟩
    · rw [ran, State.request_held s held]
    · rw [ran, State.request_full s working full]

/-! ### Unknown kinds and wrong lengths (R168) -/

theorem recognisedKind_iff (kind : Nat) : recognisedKind kind = true ↔ (requestLength kind).isSome = true := by
  unfold requestLength
  split
  all_goals try exact iff_of_true (by decide) rfl
  refine iff_of_false (fun recognised => ?_) Bool.false_ne_true
  simp [recognisedKind] at recognised
  simp only [imp_false] at *
  omega

theorem readRequest_badKind {kind : Nat} (unknown : recognisedKind kind = false) (length : Nat) (body : List Byte) :
    readRequest kind length body = .badKind kind := by
  have none : requestLength kind = none := by
    by_contra some
    rw [Bool.eq_false_iff] at unknown
    exact unknown ((recognisedKind_iff kind).2 (Option.isSome_iff_ne_none.2 some))
  simp [readRequest, none]

theorem readRequest_badLength {kind length required : Nat} (fixed : requestLength kind = some required) (wrong : length ≠ required)
    (body : List Byte) : readRequest kind length body = .badLength kind required := by simp [readRequest, fixed, wrong]

/-- What step 1 of R166 leaves of sessions, locations and tasks. -/
theorem State.settleOutbound_frame (s : State) (o : Outbound) (n : Nat) :
    (s.settleOutbound o n).sessions = s.sessions ∧ (s.settleOutbound o n).locs = s.locs ∧
    (s.settleOutbound o n).tasks.length ≤ s.tasks.length := by
  unfold State.settleOutbound State.removeNotice
  simp only []
  repeat' split
  all_goals exact ⟨rfl, rfl, by first | exact le_rfl | exact List.length_filter_le _ _⟩

/-- A transaction that carries a request in full whose answer needs no owner (R166, R168). -/
theorem exec_lcsRise_answered {s : State} {o : Outbound} {kind length : Byte} {extra : List Byte} {wave : List LinkPins}
    {f : State → State × Answer} {a : Answer} (working : s.held = false) (clocked : ldiBytes true wave = length :: extra)
    (inProgress : s.link.outbound = some o) (ready : s.link.readySample = true) (room : s.link.replies.length < 4)
    (first : s.link.request = [kind]) (nonzero : kind ≠ 0) (full : length.toNat ≤ extra.length ∨ 60 < length.toNat)
    (runs : ∀ u : State, u.runTaken (kind :: length :: extra) = u.request f) (answers : ∀ u : State, f u = (u, a)) :
    ∃ t, exec (.lcsRise wave) s = .next t ∧ t.link.lastOutcome = .taken ∧ t.link.replies.getLast? = some a ∧
      t.tasks.length ≤ s.tasks.length ∧ t.sessions = s.sessions ∧ t.locs = s.locs := by
  have taken : requestFate (kind :: length :: extra) true = .taken := by
    simp only [requestFate, if_neg nonzero, Bool.not_true, Bool.false_eq_true, if_false]
    exact if_neg fun h => by omega
  have ran := exec_lcsRise_taken inProgress ready first clocked taken
  obtain ⟨held, -, -, fewer⟩ := State.settleOutbound_link { s with lcs := true } o (1 + (length :: extra).length)
  obtain ⟨sessions, locs, tasks⟩ := State.settleOutbound_frame { s with lcs := true } o (1 + (length :: extra).length)
  rw [runs, State.request_taken _ (held.trans working) (fewer.trans_lt room), answers] at ran
  exact ⟨_, ran, rfl, by simp [State.endTransaction], tasks, sessions, locs⟩

/-- Settles O29. -/
theorem unknownKindsAndLengthsAreAnswered : Obligations.UnknownKindsAndLengthsAreAnswered := by
  refine ⟨fun s kind takes => ?_, fun kind length body => ⟨fun unknown => readRequest_badKind unknown length body,
    fun required fixed wrong => readRequest_badLength fixed wrong body, recognisedKind_iff kind⟩, ?_, ?_⟩
  · rw [exec_request rfl, State.runRequest_of_owner (f := fun s => s.unknownRequest kind) rfl, State.request_taken s takes.1 takes.2]
    rfl
  · intro s o kind length extra wave required working clocked inProgress ready room first fixed wrong full
    have nonzero : kind ≠ 0 := by rintro rfl; exact nomatch fixed
    have runs (u : State) : u.runTaken (kind :: length :: extra) = u.request fun s => s.badLength kind.toNat required := by
      simp only [State.runTaken, readRequest_badLength fixed wrong]
    obtain ⟨t, ran, -, rest⟩ := exec_lcsRise_answered working clocked inProgress ready room first nonzero full runs fun _ => rfl
    exact ⟨t, ran, rest⟩
  · intro s o kind length extra wave working clocked inProgress ready room first nonzero unknown full
    have runs (u : State) : u.runTaken (kind :: length :: extra) = u.request fun s => s.unknownRequest kind.toNat := by
      simp only [State.runTaken, readRequest_badKind unknown]
    exact exec_lcsRise_answered working clocked inProgress ready room first nonzero full runs fun _ => rfl

end Sys2Proof.Machine
end

section
/-! Outbound records as bytes (R159, R164, R168, R176, R177). Settles O9. -/

namespace Sys2Proof.Machine

open Sys2Proof.Claims

theorem Field.bytes_eq : Field.bytes = fieldBytes := by
  funext f
  cases f <;> rfl

theorem fields_bytes (fields : List Field) : (fields.map Field.bytes).flatten = fields.flatMap fieldBytes := by
  rw [Field.bytes_eq, List.flatMap_def]

/-- A notice is its kind, its length, its time stamp and its fields. -/
theorem Entry.bytes_eq {e : Entry} {n : Notice} (notice : e.notice = n) (body : List Byte) (fields : n.fields.flatMap fieldBytes = body) :
    (Outbound.notice e).bytes = record n.kindByte (2 + body.length) (twoBytes e.stamp ++ body) := by
  subst notice
  unfold Outbound.bytes Entry.bytes recordBytes record
  dsimp only
  rw [fields_bytes, fields, List.length_append]
  rfl

/-- Settles O9. -/
theorem outboundRecordsAreLaidOutInBytes : Obligations.OutboundRecordsAreLaidOutInBytes := by
  refine ⟨rfl, fun a => ?_, fun e l task picked other slot => ?_, rfl, ?_, fun c => ?_⟩
  · unfold Outbound.bytes Answer.bytes recordBytes record
    dsimp only
    rw [fields_bytes, List.length_append]
    rfl
  · refine ⟨fun o notice => ?_, fun notice => ?_, fun k o id i notice => ?_, fun p c k n notice => ?_, fun b v n notice => ?_,
      fun b v level n notice => ?_, fun notice => ?_⟩
    all_goals rw [Entry.bytes_eq notice _ rfl]
    · rfl
    · rfl
    · cases id <;> cases i <;> rfl
    · cases k <;> cases n <;> rfl
    · cases n <;> rfl
    · cases n <;> rfl
    · rfl
  · refine ⟨rfl, rfl, rfl, rfl, rfl, rfl, rfl, fun x => rfl, rfl, rfl, rfl, rfl, rfl, rfl, rfl, rfl, rfl, fun d => rfl, rfl, rfl, rfl⟩
  · cases c <;> exact ⟨rfl, rfl⟩

end Sys2Proof.Machine
end

section
/-! The lines that the part drives (R92, R107, R111, R162, R170, R171, 6.7). Settles O10. -/

namespace Sys2Proof.Machine

open Sys2Proof.Claims

variable {s : State}

theorem State.attn_iff (s : State) : s.attn = true ↔ s.held = false ∧
    (s.link.replies ≠ [] ∨ (∃ e ∈ s.notices.entries, s.notices.mask < e.priority) ∨ s.notices.transmitting ≠ none) := by
  simp [State.attn, NoticeQueue.candidate_isSome, Option.isSome_iff_ne_none, or_assoc]

theorem State.rdy_iff (s : State) : s.rdy = true ↔ s.held = false ∧ s.link.replies.length < 4 := by
  simp [State.rdy, State.ready]

/-! ### LDO (R162) -/

theorem State.ldo_none (quiet : s.held = true ∨ s.lcs = true ∨ s.link.outbound = none) (n : Nat) : s.ldo n = none ∧ s.ldoBit n = none := by
  have byte (n : Nat) : s.ldo n = none := by
    obtain held | high | none := quiet
    · simp [State.ldo, held]
    · simp [State.ldo, high]
    · simp [State.ldo, none]
  exact ⟨byte n, by simp [State.ldoBit, byte]⟩

theorem State.ldo_eq {o : Outbound} (working : s.held = false) (low : s.lcs = false) (inProgress : s.link.outbound = some o) (n : Nat) :
    s.ldo n = some ((s.link.status :: o.bytes).getD n 0) := by simp [State.ldo, working, low, inProgress]

/-- Bit 7 of a byte travels first. -/
theorem State.ldoBit_eq {n : Nat} {x : Byte} (byte : s.ldo n = some x) (k : Fin 8) : s.ldoBit (8 * n + k.val) = some (x.getLsbD (7 - k.val)) := by
  have place : (8 * n + k.val) / 8 = n ∧ (8 * n + k.val) % 8 = k.val := by omega
  have bit : x.getMsbD k.val = x.getLsbD (7 - k.val) := by
    have := k.isLt
    simp [BitVec.getMsbD, this]
  rw [State.ldoBit, place.1, place.2, byte, Option.map_some, bit]

/-- LCK falls once for each rise, but for the one that has not fallen yet. -/
theorem fallingEdges_add (lck : Bool) (wave : List LinkPins) (p : LinkPins) :
    fallingEdges lck (wave ++ [p]) + p.lck.toNat = (risingBits lck (wave ++ [p])).length + lck.toNat := by
  induction wave generalizing lck with
  | nil => cases lck <;> cases low : p.lck <;> simp [fallingEdges, risingBits, low]
  | cons q qs ih =>
    have rest := ih q.lck
    cases lck <;> cases level : q.lck <;> simp [fallingEdges, risingBits, level] at rest ⊢ <;> omega

theorem State.ldoAfter_eq (wave : List LinkPins) (p : LinkPins) :
    s.ldoAfter (wave ++ [p]) = s.ldoBit ((rises false (wave ++ [p])).length - p.lck.toNat) := by
  have edges := fallingEdges_add false wave p
  rw [Bool.toNat_false, Nat.add_zero] at edges
  rw [State.ldoAfter, rises_eq, ← edges, Nat.add_sub_cancel]

/-! ### xENR and xDE (R92, R107, R111, 6.7) -/

theorem State.pairSlot_idle {b : Fin 4} (quiet : s.held = true ∨ (s.bus b).state = .off) (n : Nat) : s.pairSlot b n = .idle := by
  obtain held | off := quiet
  · simp [State.pairSlot, held]
  · simp [State.pairSlot, off]

theorem State.de_iff (b : Fin 4) (n : Nat) : s.de b n = true ↔ (s.pairSlot b n).bit.isSome = true := by
  have slot : (s.pairSlot b n).de = (s.pairSlot b n).bit.isSome := by
    unfold State.pairSlot
    split
    · rfl
    · rw [List.getD_eq_getElem?_getD]
      cases found : (sendSlots (s.bus b).sent)[n]? with
      | none => rfl
      | some p => exact sendSlots_de (List.mem_of_getElem? found)
  rw [State.de, slot]

/-- A single frame is sent after 40 us of quiet (R111; assumption 14). -/
theorem State.pairSlot_sent {b : Fin 4} {f : AisleFrame} (working : s.held = false) (on : (s.bus b).state ≠ .off)
    (sent : (s.bus b).sent = [f]) (n : Nat) : s.pairSlot b n = (List.replicate 10 PairSlot.idle ++ f.slots).getD n .idle := by
  simp [State.pairSlot, working, on, sent, sendSlots]

theorem State.pairSlot_before {b : Fin 4} {f : AisleFrame} (working : s.held = false) (on : (s.bus b).state ≠ .off)
    (sent : (s.bus b).sent = [f]) {n : Nat} (quiet : n < 10) : s.pairSlot b n = .idle := by
  rw [State.pairSlot_sent working on sent, List.getD_append _ _ _ _ (by simpa using quiet), List.getD_replicate _ quiet]

theorem State.pairSlot_frame {b : Fin 4} {f : AisleFrame} (working : s.held = false) (on : (s.bus b).state ≠ .off)
    (sent : (s.bus b).sent = [f]) (n : Nat) : s.pairSlot b (10 + n) = f.slots.getD n .idle := by
  rw [State.pairSlot_sent working on sent, List.getD_append_right _ _ _ _ (by simp)]
  simp

theorem State.pairSlot_byte {b : Fin 4} {f : AisleFrame} (working : s.held = false) (on : (s.bus b).state ≠ .off)
    (sent : (s.bus b).sent = [f]) {k j : Nat} (hk : k < f.bytes.length) (hj : j < 10) :
    s.pairSlot b (10 + (10 * k + j)) = { de := true, bit := some ((byteBits f.bytes[k])[j]'(by simpa using hj)) } := by
  rw [State.pairSlot_frame working on sent]
  exact byteSlots_getD f.bytes k j hk hj

/-- Settles O10. -/
theorem outputLinesFollowTheState : Obligations.OutputLinesFollowTheState := by
  intro s
  refine ⟨s.attn_iff, s.rdy_iff, State.ldo_none, fun o working low inProgress => ?_, ⟨rfl, State.ldoAfter_eq⟩, fun b => ?_⟩
  · have byte := State.ldo_eq working low inProgress
    refine ⟨byte 0, fun n h => ?_, fun n h => ?_, fun n x => State.ldoBit_eq⟩
    · simp [byte, h]
    · simp [byte, h]
  · refine ⟨fun quiet => ⟨?_, fun n => ?_⟩, fun working enrolling => ?_, fun working service => ?_, rfl, fun inv => (inv.agrees b).switch,
      State.de_iff b, fun f working on sent => ⟨fun n quiet => ?_, fun n done => ?_, fun k hk => ⟨?_, fun j => ?_, ?_⟩⟩⟩
    · obtain held | off := quiet
      · simp [State.enr, held]
      · simp [State.enr, off]
    · rw [State.de, State.pairSlot_idle quiet]
      rfl
    · simp [State.enr, working, enrolling]
    · simp [State.enr, working, service]
    · rw [State.de, State.pairSlot_before working on sent quiet]
      rfl
    · obtain ⟨m, rfl⟩ := Nat.exists_eq_add_of_le (by omega : 10 ≤ n)
      rw [State.de, State.pairSlot_frame working on sent, List.getD_eq_default _ _ (by rw [slots_length]; omega)]
      rfl
    · exact State.pairSlot_byte (j := 0) working on sent hk (by decide)
    · rw [Nat.add_assoc, Nat.add_assoc, State.pairSlot_byte working on sent hk (by omega : 1 + j.val < 10)]
      congr 2
      simp [byteBits, Nat.add_comm 1]
    · rw [Nat.add_assoc, State.pairSlot_byte working on sent hk (by decide)]
      congr 2

end Sys2Proof.Machine
end

section
/-! What the link port's, the notice queue's and the scheduler's requests answer and store. Settles O11, O12, O13 and O14. -/

namespace Sys2Proof.Machine

open Sys2Proof.Claims

/-! ### A request taken, with its answer -/

/-- A request taken is its owner's execution, with its answer at the end of the reply queue (R166 step 2). -/
theorem exec_answers {c : Instr} {f : State → State × Answer} {s u : State} {a : Answer} (owned : requestOwner c = some f)
    (takes : Takes s) (runs : f s = (u, a)) : exec c s = .next (answered u a) := by
  rw [exec_request (by rw [owned]; rfl), State.runRequest_of_owner owned, State.request_taken s takes.1 takes.2, runs]
  rfl

theorem State.withSlot_val (s : State) (kind : Nat) (i : Fin 8) (f : Fin 8 → State × Answer) : s.withSlot kind i.val f = f i := by
  simp [State.withSlot]

theorem State.withSlot_above (s : State) (kind : Nat) {slot : Nat} (above : 7 < slot) (f : Fin 8 → State × Answer) :
    s.withSlot kind slot f = s.refuse kind .badField := by simp [State.withSlot, State.slotOf_none above]

theorem State.withBus_val (s : State) (kind : Nat) (b : Fin 4) (f : Fin 4 → State × Answer) : s.withBus kind b.val f = f b := by
  simp [State.withBus]

theorem State.withBus_above (s : State) (kind : Nat) {bus : Nat} (above : 3 < bus) (f : Fin 4 → State × Answer) :
    s.withBus kind bus f = s.refuse kind .badField := by simp [State.withBus, State.busOf_none above]

/-! ### Queries (R19, R102, R127, R172) -/

theorem optFields_eq : @optFields = @Claims.optional := by
  funext α o f
  cases o <;> rfl

theorem map_flatten {α : Type} (l : List α) (f : α → List Field) : (l.map f).flatten = l.flatMap f := (List.flatMap_def ..).symm

theorem State.slotsInUse_eq (s : State) :
    s.slotsInUse = ((List.finRange 8).filter fun i => decide ((s.session i).state ≠ .free)).length := by
  have same (x : Session) : (x.state != .free) = decide (x.state ≠ .free) := by rw [Bool.eq_iff_iff]; simp
  rw [State.slotsInUse, toList_eq_map, List.countP_map, List.countP_eq_length_filter]
  simp only [Function.comp_def, same]
  rfl

theorem State.countPresence_eq (s : State) (b : Fin 4) (p : Presence) : s.countPresence b p = presenceCount s b p := by
  rw [State.countPresence, State.countP_locs, List.countP_eq_length_filter]
  rfl

theorem State.taskCount_eq (s : State) (i : Fin 8) (state : TaskState) :
    s.taskCount i state = Claims.taskCount s fun t => decide (t.slot = i ∧ t.state = state) := by
  have same (t : Task) : (t.slot == i && t.state == state) = decide (t.slot = i ∧ t.state = state) := by rw [Bool.eq_iff_iff]; simp
  rw [State.taskCount, Claims.taskCount, List.countP_eq_length_filter]
  simp only [same]

/-- Settles O11. -/
theorem queriesReportAndChangeNothing : Obligations.QueriesReportAndChangeNothing := by
  intro s takes
  refine ⟨exec_answers rfl takes ?_, fun i => exec_answers rfl takes ?_, fun b => exec_answers rfl takes ?_, fun l inService =>
    exec_answers rfl takes ?_⟩
  · simp only [State.partStatus, State.slotsInUse_eq, State.closedCount, Claims.taskCount, List.countP_eq_length_filter]
    rfl
  · simp only [State.querySession, State.withSlot_val, State.sessionFields, optFields_eq, map_flatten, State.taskCount_eq]
    simp only [answerOf, List.append_assoc, List.cons_append, List.nil_append]
    rfl
  · simp only [State.queryBus, State.withBus_val, State.busFields, State.countPresence_eq]
    rfl
  · simp only [State.queryLocation, State.locOf_val inService, State.locationFields, optFields_eq]
    simp only [answerOf, locFields, faceFields, List.append_assoc, List.cons_append, List.nil_append]
    rfl

/-! ### RESET_PART (R173) -/

/-- Settles O12. -/
theorem commandResetClearsAndRestarts : Obligations.CommandResetClearsAndRestarts := by
  intro s takes
  have bus (b : Fin 4) : s.commandReset.bus b = s.commandResetBus b := by simp [State.commandReset, State.bus]
  have feed (b : Fin 4) : s.commandReset.feed b = Feed.initial (if s.inService b then some s.now else none) := by
    simp [State.commandReset, State.feed]
  refine ⟨_, exec_answers rfl takes rfl, rfl, fun i => ?_, fun l => ?_, fun b => ?_, fun b inService => ⟨?_, ?_⟩,
    fun b outside => ⟨?_, ?_⟩⟩
  · simp [answered, State.commandReset, State.session]
  · simp [answered, State.commandReset, State.loc]
  · simp [answered, State.commandReset, State.governor]
  · exact (bus b).trans (if_pos inService)
  · exact (feed b).trans (by rw [if_pos inService])
  · exact (bus b).trans (if_neg (by simp [outside]))
  · exact (feed b).trans (by rw [outside]; rfl)

/-! ### Settings (R61, R126, R150, R154) -/

theorem clamp_zero (hi n : Nat) : clamp 0 hi n = min hi n := Nat.zero_max _

theorem NoticeClass.ofCode_above {cls : Nat} (above : 5 < cls) : NoticeClass.ofCode cls = none := by
  unfold NoticeClass.ofCode
  split
  all_goals first | rfl | omega

theorem ClassTable.get_set (t : ClassTable) (c d : NoticeClass) (p : Nat) : (t.set c p).get d = if d = c then p else t.get d := by
  cases c <;> cases d <;> rfl

theorem State.setClass_ofCode (s : State) {cls : Nat} {c : NoticeClass} (named : NoticeClass.ofCode cls = some c) (priority : Nat) :
    s.setClass cls priority = ({ s with notices := { s.notices with classes := s.notices.classes.set c (min 3 priority) } },
      { kind := 0x83, result := .ok, fields := [.u8 cls, .u8 (min 3 priority), .u8 (s.notices.classes.get c)] }) := by
  simp only [State.setClass, named, clamp_zero]
  rfl

/-- With room, a notice of a class above priority 0 joins at that priority (R151, R152). -/
theorem State.queueNotice_joins {s : State} {n : Notice} (made : s.notices.classes.get n.cls ≠ 0) (room : s.notices.entries.length < 32)
    (closure : Option Nat) :
    ∃ e ∈ (s.queueNotice n closure).notices.entries, e.notice = n ∧ e.priority = s.notices.classes.get n.cls := by
  rw [State.queueNotice_eq, if_neg made]
  refine ⟨{ notice := n, priority := s.notices.classes.get n.cls, stamp := s.now % 65536, age := s.notices.nextAge, closure := closure },
    ?_, rfl, rfl⟩
  simp only [NoticeQueue.offer, if_pos room, NoticeQueue.join]
  exact (mem_insertEntry ..).2 (.inl rfl)

theorem countP_add_countP {α : Type} (l : List α) (p q : α → Bool) (other : ∀ a, q a = !p a) :
    (l.filter p).length + (l.filter q).length = l.length := by
  have := l.length_eq_length_filter_add p
  rw [show q = fun a => !p a from funext other]
  exact this.symm

/-- Settles O13. -/
theorem settingsAreClampedAndStored : Obligations.SettingsAreClampedAndStored := by
  refine ⟨fun s cls priority takes => ⟨fun above => exec_answers rfl takes ?_, fun c named =>
    ⟨_, exec_answers rfl takes (s.setClass_ofCode named priority), rfl, fun d => ClassTable.get_set .., rfl,
      fun n closure of_class zero => ?_, fun n closure of_class positive room => ?_⟩⟩, fun s level takes => ?_,
    fun s cycle minDwell guard hold linger takes => exec_answers rfl takes ?_, fun s bus period takes above => exec_answers rfl takes ?_,
    fun s b period takes => ?_⟩
  · simp only [State.setClass, NoticeClass.ofCode_above above]
    rfl
  · refine State.queueNotice_priority_zero _ _ ?_
    rw [of_class, zero]
    exact (ClassTable.get_set ..).trans (if_pos rfl)
  · have stored : (s.notices.classes.set c (min 3 priority)).get n.cls = min 3 priority := by rw [ClassTable.get_set, if_pos of_class]
    obtain ⟨e, joined, notice, at_⟩ := State.queueNotice_joins (s := answered
      { s with notices := { s.notices with classes := s.notices.classes.set c (min 3 priority) } } _) (n := n)
      (by change (s.notices.classes.set c (min 3 priority)).get n.cls ≠ 0; omega) room closure
    exact ⟨e, joined, notice, at_.trans stored⟩
  · refine ⟨_, _, exec_answers rfl takes ?_, rfl, rfl, countP_add_countP _ _ _ fun e => ?_⟩
    · simp only [State.setMask, clamp_zero, List.countP_eq_length_filter]
      rfl
    · rw [Bool.eq_iff_iff]
      simp
  · simp only [State.setTiming, clampedTiming, clamp_zero]
    rfl
  · simp only [State.setSweep, State.withBus_above _ _ above]
    rfl
  · by_cases inService : s.inService b = true
    · rw [if_pos inService]
      refine exec_answers rfl takes ?_
      simp only [State.setSweep, State.withBus_val, inService, Bool.true_eq_false, if_false]
      rfl
    · rw [if_neg inService]
      refine exec_answers rfl takes ?_
      simp only [State.setSweep, State.withBus_val, Bool.eq_false_iff.2 inService, if_true]
      rfl

/-! ### Direct mode (R62, R63) -/

theorem Colour.ofCode_code (c : Colour) : Colour.ofCode c.code = some c := by cases c <;> rfl

theorem lampOf_lampCode (c : Option Colour) : lampOf (lampCode c) = some c := by
  cases c with
  | none => rfl
  | some c => cases c <;> rfl

theorem Glyph.ofCode_code (g : Glyph) : Glyph.ofCode g.code = some g := by
  cases g with
  | digit d => simp [Glyph.code, Glyph.ofCode]
  | blank => rfl
  | dash => rfl

theorem Blink.ofCode_code (k : Blink) : Blink.ofCode k.code = some k := by cases k <;> rfl

/-- Settles O14. -/
theorem directModeIsSetAndEnded : Obligations.DirectModeIsSetAndEnded := by
  intro s l takes inService
  refine ⟨?_, fun direct => exec_answers rfl takes ?_⟩
  · rintro colour c0 c1 c2 blink c g0 g1 g2 k service visited rfl rfl rfl rfl rfl
    refine exec_answers rfl takes ?_
    have visited : (s.loc l).visited = true := (Location.visited_iff _).2 visited
    simp only [State.directSet, State.locOf_val inService, patternOf, lampOf_lampCode, Glyph.ofCode_code, Blink.ofCode_code, service,
      visited]
    simp [State.modRot, State.modLoc, answerOf]
  · have set : (s.loc l).rot.direct.isNone = false := by simpa using direct
    simp only [State.directEnd, State.locOf_val inService, set, Bool.false_eq_true, if_false]
    rfl

end Sys2Proof.Machine
end

section
/-! What the requests on a bus do, and how the requests on buses, locations, sessions and records are refused. Settles O15, O16, O17,
O18, O28. -/

namespace Sys2Proof.Machine

open Sys2Proof.Claims

/-! ### Writes to one bus, put together -/

theorem State.setBus_setBus (s : State) (b : Fin 4) (x y : Bus) : (s.setBus b x).setBus b y = s.setBus b y := by
  simp [State.setBus]

theorem State.setFeed_setFeed (s : State) (b : Fin 4) (x y : Feed) : (s.setFeed b x).setFeed b y = s.setFeed b y := by
  simp [State.setFeed]

theorem State.setGovernor_setGovernor (s : State) (b : Fin 4) (x y : Governor) :
    (s.setGovernor b x).setGovernor b y = s.setGovernor b y := by simp [State.setGovernor]

theorem State.setGovernor_setBus (s : State) (b : Fin 4) (x : Bus) (g : Governor) :
    (s.setGovernor b g).setBus b x = (s.setBus b x).setGovernor b g := rfl

theorem State.setFeed_setBus (s : State) (b : Fin 4) (x : Bus) (f : Feed) :
    (s.setFeed b f).setBus b x = (s.setBus b x).setFeed b f := rfl

theorem State.setFeed_setGovernor (s : State) (b : Fin 4) (g : Governor) (f : Feed) :
    (s.setFeed b f).setGovernor b g = (s.setGovernor b g).setFeed b f := rfl

/-! ### SET_FEED (R133, R134, R140) -/

theorem SamplingMode.ofCode_code (m : SamplingMode) : SamplingMode.ofCode m.code = some m := by cases m <;> rfl

theorem SamplingMode.ofCode_above {mode : Nat} (above : 2 < mode) : SamplingMode.ofCode mode = none := by
  unfold SamplingMode.ofCode
  split
  all_goals first | rfl | omega

theorem nextAfterSelect_eq (c : Bus) (f : Feed) (m : SamplingMode) (now : Nat) :
    nextAfterSelect c.state f m now = sampleAfterSetFeed c f m now := by
  have max_eq (t : Nat) : some (max now (t + 2000)) = if t + 2000 ≤ now then some now else some (t + 2000) := by
    split
    · rw [Nat.max_eq_left ‹_›]
    · rw [Nat.max_eq_right (by omega)]
  have same : (f.busy || m == f.mode || c.state == .unpowered || c.state == .brownout) = true ↔
      f.busy = true ∨ c.state = .unpowered ∨ c.state = .brownout ∨ m = f.mode := by
    simp only [Bool.or_eq_true, beq_iff_eq]
    tauto
  unfold nextAfterSelect sampleAfterSetFeed
  simp only [same, max_eq]
  split
  · rfl
  · cases m <;> cases f.lastStart <;> rfl

theorem Feed.select_eq (c : Bus) (f : Feed) (m : SamplingMode) (now : Nat) : f.select c.state m now =
    { f with mode := m, escalated := f.escalated && decide (m = .periodic), next := sampleAfterSetFeed c f m now } := by
  have same : (m == .periodic) = decide (m = .periodic) := by rw [Bool.eq_iff_iff]; simp
  rw [Feed.select, nextAfterSelect_eq, same]

/-- Settles O15. -/
theorem setFeedStoresCapacityAndMode : Obligations.SetFeedStoresCapacityAndMode := by
  intro s b capacity m takes
  by_cases inService : s.inService b = true
  · rw [if_pos inService]
    refine exec_answers rfl takes ?_
    simp only [State.setFeedRequest, State.withBus_val, SamplingMode.ofCode_code, inService, Bool.true_eq_false, if_false,
      Feed.select_eq]
    rfl
  · rw [if_neg inService]
    refine exec_answers rfl takes ?_
    simp only [State.setFeedRequest, State.withBus_val, SamplingMode.ofCode_code, Bool.eq_false_iff.2 inService, if_true]
    rfl

/-! ### ENROL (R101) -/

theorem State.visitedCount_eq (s : State) (b : Fin 4) :
    s.visitedCount b = presenceCount s b .present + presenceCount s b .suspect := by
  have split (l : List Location) : l.countP Location.visited
      = (l.countP fun x => x.state == .present) + l.countP fun x => x.state == .suspect := by
    induction l with
    | nil => rfl
    | cons x l ih =>
      have one : (if x.visited then 1 else 0) = (if x.state == .present then 1 else 0) + if x.state == .suspect then 1 else 0 := by
        cases h : x.state <;> simp [Location.visited, h]
      rw [List.countP_cons, List.countP_cons, List.countP_cons, ih, one]
      omega
  rw [State.visitedCount, split, ← s.countPresence_eq, ← s.countPresence_eq]
  rfl

theorem State.startEnrol_eq (s : State) (b : Fin 4) : s.startEnrol b =
    (s.setGovernor b { s.governor b with phaseExpiry := none }).setBus b
      (if (s.bus b).exchange.ofSweep then { s.bus b with state := .enrolling, scheduled := none }
        else { s.bus b with state := .enrolling, scheduled := none, exchange := .none, sent := [.release, .release],
                            waitEnd := none, resettingEnd := none, enrLowEnd := some (s.now + 50) }) := by
  simp only [State.startEnrol, State.leaveService, State.startRelease, State.modBus, State.modGovernor, State.bus_setBus,
    State.setGovernor_frame, State.setBus_frame, if_true, State.setGovernor_setBus, State.setBus_setBus]
  split <;> rfl

/-- Settles O16. -/
theorem enrolStartsTheReleasePhase : Obligations.EnrolStartsTheReleasePhase := by
  intro s b takes
  refine ⟨fun service => exec_answers rfl takes ?_, fun enrolling => exec_answers rfl takes ?_, fun other walking =>
    exec_answers rfl takes ?_⟩
  · simp only [State.enrolRequest, State.withBus_val, service, reduceCtorEq, ne_eq, not_true_eq_false, if_false, State.startEnrol_eq,
      State.visitedCount_eq]
    rfl
  · simp only [State.enrolRequest, State.withBus_val, enrolling, if_true]
    rfl
  · simp only [State.enrolRequest, State.withBus_val, if_neg walking, if_pos other]
    rfl

/-! ### RESET_BUS (R128) -/

theorem State.clearBus_eq (s : State) (b : Fin 4) : s.clearBus b =
    ((s.setBus b { s.bus b with silent := false, phase := false }).setGovernor b { s.governor b with
      mode := .none, scale := 0, overload := false, phaseExpiry := none }).setFeed b { s.feed b with zeroRun := 0 } := rfl

theorem State.enterResetting_clearBus (s : State) (b : Fin 4) : (s.clearBus b).enterResetting b =
    ((s.setBus b { s.bus b with
        state := .resetting, silent := false, phase := false, scheduled := none, exchange := .none, waitEnd := none,
        enrLowEnd := none, resettingEnd := some (s.now + 500) }).setGovernor b { s.governor b with
        mode := .none, scale := 0, overload := false, phaseExpiry := none }).setFeed b { s.feed b with
        zeroRun := 0, switchClosed := false } := by
  simp only [State.clearBus_eq, State.enterResetting, State.leaveService, State.modBus, State.modGovernor, State.modFeed,
    State.setFeed_frame, State.setGovernor_frame, State.setBus_frame, State.bus_setBus, State.governor_setGovernor,
    State.feed_setFeed, if_true, State.setFeed_setBus, State.setFeed_setGovernor, State.setFeed_setFeed, State.setGovernor_setBus,
    State.setGovernor_setGovernor, State.setBus_setBus]

/-- Settles O17. -/
theorem resetBusActsByState : Obligations.ResetBusActsByState := by
  intro s b takes
  refine ⟨fun working => exec_answers rfl takes ?_, fun brownout => exec_answers rfl takes ?_, fun off => exec_answers rfl takes ?_⟩
  · simp only [State.resetBusRequest, State.withBus_val, State.enterResetting_clearBus]
    rcases working with state | state | state <;> (simp only [state]; rfl)
  · simp only [State.resetBusRequest, State.withBus_val, brownout, State.clearBus_eq]
    rfl
  · simp only [State.resetBusRequest, State.withBus_val]
    rcases off with state | state <;> (simp only [state]; rfl)

end Sys2Proof.Machine
end

section
/-! How the requests on sessions, buses, locations and records are refused. Settles O18 and O28. -/

namespace Sys2Proof.Machine

open Sys2Proof.Claims

/-! ### Ranges and locations that a request names (R6, R27) -/

theorem State.rangeOf_none {s : State} {bus first last : Nat}
    (outside : s.busesInService ≤ bus ∨ first < 1 ∨ last < first ∨ 62 < last) : s.rangeOf bus first last = none := by
  rcases outside with above | bad
  · simp only [State.rangeOf, State.serviceBus_none above]
  · unfold State.rangeOf
    split
    · exact if_neg (by omega)
    · rfl

theorem State.rangeOf_val {s : State} {b : Fin 4} {first last : Nat} (inService : s.inService b = true) (low : 1 ≤ first)
    (ordered : first ≤ last) (high : last ≤ 62) : s.rangeOf b.val first last = some { bus := b, first := first, last := last } := by
  simp only [State.rangeOf, State.serviceBus_val inService, low, ordered, high, and_self, if_true]

/-- A bus number below the number of buses in service names one of them. -/
theorem State.exists_inService {s : State} {bus : Nat} (below : bus < s.busesInService) : ∃ b : Fin 4, b.val = bus ∧ s.inService b = true :=
  ⟨⟨bus, by have := s.busesInService_le; omega⟩, rfl, by simpa [State.inService] using below⟩

theorem idxOf_none {node : Nat} (outside : node < 1 ∨ 62 < node) : idxOf node = none := by
  unfold idxOf
  split
  · exact if_pos (by omega)
  · rfl

theorem State.locOf_none {s : State} {bus node : Nat} (outside : nowhere s bus node) : s.locOf bus node = none := by
  rcases outside with above | bad
  · simp only [State.locOf, State.serviceBus_none above]
  · rw [State.locOf, idxOf_none bad]
    split
    · next node => cases node
    · rfl

/-! ### Session requests (R3 to R19) -/

theorem Colour.ofCode_none {colour : Nat} (outside : colour < 1 ∨ 7 < colour) : Colour.ofCode colour = none := by
  unfold Colour.ofCode
  split
  all_goals first | rfl | omega

section Session

variable {s : State} {i : Fin 8}

/-- A slot number above 7 is refused before any other check (R3). -/
theorem refused_aboveSlots (takes : Takes s) {slot : Nat} (x y z : Nat) (above : 7 < slot) :
    refused (.openSession slot x y) s 0xA0 .badField ∧ refused (.grant slot x y z) s 0xA1 .badField ∧
    refused (.revoke slot x) s 0xA2 .badField ∧ refused (.setPriority slot x) s 0xA3 .badField ∧
    refused (.suspend slot) s 0xA4 .badField ∧ refused (.resume slot) s 0xA5 .badField ∧
    refused (.closeSession slot) s 0xA6 .badField ∧ refused (.querySession slot) s 0xA7 .badField :=
  ⟨exec_answers rfl takes (s.withSlot_above _ above _), exec_answers rfl takes (s.withSlot_above _ above _),
    exec_answers rfl takes (s.withSlot_above _ above _), exec_answers rfl takes (s.withSlot_above _ above _),
    exec_answers rfl takes (s.withSlot_above _ above _), exec_answers rfl takes (s.withSlot_above _ above _),
    exec_answers rfl takes (s.withSlot_above _ above _), exec_answers rfl takes (s.withSlot_above _ above _)⟩

/-- The requests on a FREE slot (R4, R6, R8, R10, R11, R14, R17). -/
theorem refused_onFreeSlot (takes : Takes s) (x y z : Nat) (free : (s.session i).state = .free) :
    refused (.grant i.val x y z) s 0xA1 .noSession ∧ refused (.revoke i.val x) s 0xA2 .noSession ∧
    refused (.setPriority i.val x) s 0xA3 .noSession ∧ refused (.suspend i.val) s 0xA4 .noSession ∧
    refused (.resume i.val) s 0xA5 .noSession ∧ refused (.closeSession i.val) s 0xA6 .noSession ∧
    (x < 1 ∨ 7 < x ∨ 3 < y → refused (.openSession i.val x y) s 0xA0 .badField) := by
  refine ⟨exec_answers rfl takes ?_, exec_answers rfl takes ?_, exec_answers rfl takes ?_, exec_answers rfl takes ?_,
    exec_answers rfl takes ?_, exec_answers rfl takes ?_, fun outside => exec_answers rfl takes ?_⟩
  · simp only [State.grantRange, State.withSlot_val, free, if_true]
    rfl
  · simp only [State.revokeRange, State.withSlot_val, free, if_true]
    rfl
  · simp only [State.changePriority, State.withSlot_val, free, if_true]
    rfl
  · simp only [State.suspendSession, State.withSlot_val, free]
    rfl
  · simp only [State.resumeSession, State.withSlot_val, free]
    rfl
  · simp only [State.closeSession, State.withSlot_val, free, if_true]
    rfl
  · simp only [State.openSession, State.withSlot_val, free, ne_eq, not_true_eq_false, if_false]
    cases colour : Colour.ofCode x with
    | none => rfl
    | some c =>
      have known : 1 ≤ x ∧ x ≤ 7 := by
        by_contra outside
        rw [Colour.ofCode_none (by omega)] at colour
        cases colour
      exact if_pos (by omega)

/-- The requests on a slot in use whose fields are out of range, or that is full (R4, R6, R8, R10). -/
theorem refused_onSlotInUse (takes : Takes s) (x y z : Nat) (used : (s.session i).state ≠ .free) :
    refused (.openSession i.val x y) s 0xA0 .sessionState ∧
    (1 + s.strapMs0.toNat + 2 * s.strapMs1.toNat ≤ x ∨ y < 1 ∨ z < y ∨ 62 < z →
      refused (.grant i.val x y z) s 0xA1 .badField) ∧
    (x < 1 + s.strapMs0.toNat + 2 * s.strapMs1.toNat → 1 ≤ y → y ≤ z → z ≤ 62 → 4 ≤ (s.session i).ranges.length →
      refused (.grant i.val x y z) s 0xA1 .grantsFull) ∧
    ((s.session i).ranges.length ≤ x → refused (.revoke i.val x) s 0xA2 .badField) ∧
    (3 < x → refused (.setPriority i.val x) s 0xA3 .badField) := by
  refine ⟨exec_answers rfl takes ?_, fun outside => exec_answers rfl takes ?_, fun below low ordered high full => exec_answers rfl takes ?_,
    fun above => exec_answers rfl takes ?_, fun above => exec_answers rfl takes ?_⟩
  · simp only [State.openSession, State.withSlot_val, if_pos used]
    rfl
  · simp only [State.grantRange, State.withSlot_val, if_neg used, State.rangeOf_none outside]
    rfl
  · obtain ⟨b, rfl, inService⟩ := State.exists_inService below
    simp only [State.grantRange, State.withSlot_val, if_neg used, State.rangeOf_val inService low ordered high, if_pos full]
    rfl
  · simp only [State.revokeRange, State.withSlot_val, if_neg used, if_pos above]
    rfl
  · simp only [State.changePriority, State.withSlot_val, if_neg used, if_pos above]
    rfl

end Session

/-- Settles O18. -/
theorem sessionRequestsAreRefused : Obligations.SessionRequestsAreRefused := by
  intro s takes
  refine ⟨fun slot x y z above => refused_aboveSlots takes x y z above, fun i x y z free => refused_onFreeSlot takes x y z free,
    fun i x y z used => refused_onSlotInUse takes x y z used, fun i => ⟨fun suspended => exec_answers rfl takes ?_, fun active =>
      exec_answers rfl takes ?_⟩⟩
  · simp only [State.suspendSession, State.withSlot_val, suspended]
    rfl
  · simp only [State.resumeSession, State.withSlot_val, active]
    rfl

/-! ### Requests on buses and locations (R62, R63, R101, R102, R127, R128, R140) -/

theorem lampOf_none {colour : Nat} (above : 7 < colour) : lampOf colour = none := by
  rw [lampOf, if_neg (by omega), Colour.ofCode_none (.inr above)]
  rfl

theorem Glyph.ofCode_none {char : Nat} (above : 11 < char) : Glyph.ofCode char = none := by
  rw [Glyph.ofCode, dif_neg (by omega), if_neg (by omega), if_neg (by omega)]

theorem Blink.ofCode_none {blink : Nat} (above : 1 < blink) : Blink.ofCode blink = none := by
  unfold Blink.ofCode
  split
  all_goals first | rfl | omega

/-- A pattern with a field out of range is none (R62 check 2). -/
theorem patternOf_none {c x y z k : Nat} (outside : 7 < c ∨ 11 < x ∨ 11 < y ∨ 11 < z ∨ 1 < k) : patternOf c x y z k = none := by
  unfold patternOf
  split
  next lamp left mid right blink =>
    rcases outside with above | above | above | above | above
    · cases (lampOf_none above).symm.trans lamp
    · cases (Glyph.ofCode_none above).symm.trans left
    · cases (Glyph.ofCode_none above).symm.trans mid
    · cases (Glyph.ofCode_none above).symm.trans right
    · cases (Blink.ofCode_none above).symm.trans blink
  · rfl

theorem Colour.exists_ofCode {colour : Nat} (low : 1 ≤ colour) (high : colour ≤ 7) : ∃ c, Colour.ofCode colour = some c := by
  interval_cases colour <;> exact ⟨_, rfl⟩

theorem lampOf_isSome {colour : Nat} (high : colour ≤ 7) : ∃ c, lampOf colour = some c := by
  by_cases zero : colour = 0
  · exact ⟨none, if_pos zero⟩
  · obtain ⟨c, named⟩ := Colour.exists_ofCode (by omega) high
    exact ⟨some c, by rw [lampOf, if_neg zero, named]; rfl⟩

theorem Glyph.exists_ofCode {char : Nat} (high : char ≤ 11) : ∃ g, Glyph.ofCode char = some g := by
  interval_cases char <;> exact ⟨_, rfl⟩

theorem Blink.exists_ofCode {blink : Nat} (high : blink ≤ 1) : ∃ k, Blink.ofCode blink = some k := by
  interval_cases blink <;> exact ⟨_, rfl⟩

/-- A pattern with every field in range (R62 check 2). -/
theorem exists_patternOf {c x y z k : Nat} (hc : c ≤ 7) (hx : x ≤ 11) (hy : y ≤ 11) (hz : z ≤ 11) (hk : k ≤ 1) :
    ∃ p, patternOf c x y z k = some p := by
  obtain ⟨lamp, hlamp⟩ := lampOf_isSome hc
  obtain ⟨left, hleft⟩ := Glyph.exists_ofCode hx
  obtain ⟨mid, hmid⟩ := Glyph.exists_ofCode hy
  obtain ⟨right, hright⟩ := Glyph.exists_ofCode hz
  obtain ⟨blink, hblink⟩ := Blink.exists_ofCode hk
  exact ⟨{ colour := lamp, chars := { left := left, mid := mid, right := right }, blink := blink },
    by simp only [patternOf, hlamp, hleft, hmid, hright, hblink]⟩

section Location

variable {s : State} (takes : Takes s)
include takes

/-- The requests on no location of a bus in service (R62, R63, R102). -/
theorem refused_nowhere {bus node : Nat} (c x y z k : Nat) (outside : nowhere s bus node) :
    refused (.queryLocation bus node) s 0x93 .noLocation ∧ refused (.directSet bus node c x y z k) s 0x94 .noLocation ∧
    refused (.directEnd bus node) s 0x95 .noLocation := by
  refine ⟨exec_answers rfl takes ?_, exec_answers rfl takes ?_, exec_answers rfl takes ?_⟩
  · simp only [State.queryLocation, State.locOf_none outside]
    rfl
  · simp only [State.directSet, State.locOf_none outside]
    rfl
  · simp only [State.directEnd, State.locOf_none outside]
    rfl

/-- The checks of DIRECT_SET and DIRECT_END at a location (R62, R63). -/
theorem refused_direct (l : Loc) (c x y z k : Nat) (inService : s.inService l.bus = true) :
    (7 < c ∨ 11 < x ∨ 11 < y ∨ 11 < z ∨ 1 < k → refused (.directSet l.bus.val l.node c x y z k) s 0x94 .badField) ∧
    (c ≤ 7 → x ≤ 11 → y ≤ 11 → z ≤ 11 → k ≤ 1 → (s.bus l.bus).state ≠ .service →
      refused (.directSet l.bus.val l.node c x y z k) s 0x94 .busState) ∧
    (c ≤ 7 → x ≤ 11 → y ≤ 11 → z ≤ 11 → k ≤ 1 → (s.bus l.bus).state = .service →
      (s.loc l).state ≠ .present → (s.loc l).state ≠ .suspect →
      refused (.directSet l.bus.val l.node c x y z k) s 0x94 .locationState) ∧
    ((s.loc l).rot.direct = none → refused (.directEnd l.bus.val l.node) s 0x95 .locationState) := by
  refine ⟨fun outside => exec_answers rfl takes ?_, fun hc hx hy hz hk stopped => exec_answers rfl takes ?_,
    fun hc hx hy hz hk service absent suspect => exec_answers rfl takes ?_, fun plain => exec_answers rfl takes ?_⟩
  · simp only [State.directSet, State.locOf_val inService, patternOf_none outside]
    rfl
  · obtain ⟨p, pattern⟩ := exists_patternOf hc hx hy hz hk
    simp only [State.directSet, State.locOf_val inService, pattern, if_pos stopped]
    rfl
  · obtain ⟨p, pattern⟩ := exists_patternOf hc hx hy hz hk
    have unvisited : (s.loc l).visited = false := by
      rw [Bool.eq_false_iff, ne_eq, Location.visited_iff]
      exact not_or.2 ⟨absent, suspect⟩
    simp only [State.directSet, State.locOf_val inService, pattern, service, ne_eq, not_true_eq_false, if_false, unvisited, if_true]
    rfl
  · simp only [State.directEnd, State.locOf_val inService, plain, Option.isNone_none, if_true]
    rfl

/-- The checks of WITHDRAW_TASK (R34). -/
theorem refused_withdraw (id cascade : Nat) :
    (s.findTask id = none → refused (.withdrawTask id cascade) s 0xB2 .noTask) ∧
    (∀ t, s.findTask id = some t →
      (∀ o, t.state = .closed → t.outcome = some o → refused (.withdrawTask id cascade) s 0xB2 .taskState [.u8 o.code]) ∧
      (t.state ≠ .closed → 1 < cascade → refused (.withdrawTask id cascade) s 0xB2 .badField)) := by
  refine ⟨fun missing => exec_answers rfl takes ?_, fun t found => ⟨fun o closed outcome => exec_answers rfl takes ?_,
    fun live above => exec_answers rfl takes ?_⟩⟩
  · simp only [State.withdrawTask, missing]
    rfl
  · have closed : t.live = false := by simp [Task.live, closed]
    simp only [State.withdrawTask, found, closed, if_true, Task.outcomeFields, outcome]
    rfl
  · have live : ¬ t.live = false := by simpa [Task.live] using live
    simp only [State.withdrawTask, found, if_neg live, if_neg (show ¬ cascade = 0 by omega), if_neg (show ¬ cascade = 1 by omega)]
    rfl

end Location

/-- Settles O28. -/
theorem busLocationAndWithdrawalRefusals : Obligations.BusLocationAndWithdrawalRefusals := by
  intro s takes
  refine ⟨fun bus x y above => ⟨exec_answers rfl takes (s.withBus_above _ above _), exec_answers rfl takes (s.withBus_above _ above _),
      exec_answers rfl takes (s.withBus_above _ above _), exec_answers rfl takes (s.withBus_above _ above _)⟩,
    fun b x mode above => exec_answers rfl takes ?_, fun bus node c x y z k outside => refused_nowhere takes c x y z k outside,
    fun l c x y z k inService => refused_direct takes l c x y z k inService, fun id cascade => refused_withdraw takes id cascade⟩
  simp only [State.setFeedRequest, State.withBus_val, SamplingMode.ofCode_above above]
  rfl

end Sys2Proof.Machine
end

section
/-! What the session requests do when they are taken. Settles O19, O20 and O21. -/

namespace Sys2Proof.Machine

open Sys2Proof.Claims

/-! ### Ranges that clash (R7) -/

theorem Range.overlaps_iff (r q : Range) : r.overlaps q = true ↔ r.bus = q.bus ∧ r.first ≤ q.last ∧ q.first ≤ r.last := by
  simp [Range.overlaps, and_assoc]

theorem State.clashesWith_iff (s : State) (i j : Fin 8) (r : Range) : s.clashesWith i r j = true ↔
    j ≠ i ∧ (s.session j).state ≠ .free ∧ (s.session j).colour = (s.session i).colour ∧
      ∃ q ∈ (s.session j).ranges, q.bus = r.bus ∧ q.first ≤ r.last ∧ r.first ≤ q.last := by
  simp [State.clashesWith, Range.overlaps_iff, and_assoc]

theorem State.clashSlot_eq_none {s : State} {i : Fin 8} {r : Range} (apart : ∀ j, ¬ s.clashesWith i r j = true) :
    s.clashSlot i r = none :=
  List.find?_eq_none.2 fun j _ => apart j

/-- The slot that a refused GRANT names is the lowest-numbered one (R7). -/
theorem State.clashSlot_eq_some {s : State} {i j : Fin 8} {r : Range} (clash : s.clashesWith i r j = true)
    (least : ∀ k, s.clashesWith i r k = true → j ≤ k) : s.clashSlot i r = some j := by
  unfold State.clashSlot
  rw [List.find?_eq_some_iff_getElem]
  refine ⟨clash, j.val, by simp, by simp, fun k below => ?_⟩
  simp only [List.getElem_finRange, Bool.not_eq_true']
  by_contra clashes
  have := least _ (Bool.not_eq_false _ ▸ clashes)
  simp only [Fin.le_def, Fin.val_cast] at this
  omega

/-! ### The WAITING and OPEN tasks of a session -/

theorem loc_answered (u : State) (a : Answer) (l : Loc) : (answered u a).loc l = u.loc l := rfl

theorem State.liveTasks_eq (s : State) (i : Fin 8) :
    s.liveTasks i = s.tasks.filter fun u => decide (u.slot = i ∧ u.state ≠ .closed) := by
  refine List.filter_congr fun t _ => ?_
  rw [Bool.eq_iff_iff]
  simp [Task.live, and_comm]

theorem State.uncoveredBy_eq (s : State) {i : Fin 8} {index : Nat} {r : Range} (named : (s.session i).ranges[index]? = some r) :
    s.uncoveredBy i index = s.tasks.filter fun t => decide (t.slot = i ∧ t.state ≠ .closed) && r.covers t.loc
      && !((s.session i).ranges.eraseIdx index).any fun q => q.covers t.loc := by
  rw [State.uncoveredBy, State.liveTasks_eq, List.filter_filter, named]
  refine List.filter_congr fun t _ => ?_
  rw [Bool.and_comm, Bool.and_assoc]
  rfl

/-! ### OPEN_SESSION, SET_PRIORITY, GRANT, REVOKE and SUSPEND (R4 to R11) -/

section Taken

variable {s : State} {i : Fin 8} (takes : Takes s)
include takes

theorem exec_openSession (c : Colour) {priority : Nat} (free : (s.session i).state = .free) (low : priority ≤ 3) :
    exec (.openSession i.val c.code priority) s = .next (answered
      (s.setSession i { state := .active, colour := some c, priority := some priority, ranges := [], pending := [] })
      { kind := 0xA0, result := .ok, fields := [.u8 i.val] }) := by
  refine exec_answers rfl takes ?_
  simp only [State.openSession, State.withSlot_val, free, ne_eq, not_true_eq_false, if_false, Colour.ofCode_code,
    if_neg (Nat.not_lt.2 low)]
  rfl

theorem exec_setPriority {priority p : Nat} (used : (s.session i).state ≠ .free) (before : (s.session i).priority = some p)
    (low : priority ≤ 3) :
    exec (.setPriority i.val priority) s = .next (answered (s.setSession i { s.session i with priority := some priority })
      { kind := 0xA3, result := .ok, fields := [.u8 p] }) := by
  refine exec_answers rfl takes ?_
  simp only [State.changePriority, State.withSlot_val, if_neg used, if_neg (Nat.not_lt.2 low), before]
  rfl

theorem exec_grant (b : Fin 4) {first last : Nat} (used : (s.session i).state ≠ .free) (inService : s.inService b = true)
    (low : 1 ≤ first) (ordered : first ≤ last) (high : last ≤ 62) (room : (s.session i).ranges.length < 4) :
    let offered : Range := { bus := b, first := first, last := last }
    ((∀ j, ¬ s.clashesWith i offered j = true) → exec (.grant i.val b.val first last) s = .next (answered
      (s.setSession i { s.session i with ranges := (s.session i).ranges ++ [offered] })
      { kind := 0xA1, result := .ok, fields := [.u8 (s.session i).ranges.length] })) ∧
    (∀ j, s.clashesWith i offered j = true → (∀ k, s.clashesWith i offered k = true → j ≤ k) →
      exec (.grant i.val b.val first last) s = .next (answered s
        { kind := 0xA1, result := .colourClash, fields := [.u8 j.val] })) := by
  have offer := State.rangeOf_val inService low ordered high
  refine ⟨fun apart => exec_answers rfl takes ?_, fun j clash least => exec_answers rfl takes ?_⟩
  · simp only [State.grantRange, State.withSlot_val, if_neg used, offer, if_neg (Nat.not_le.2 room), State.clashSlot_eq_none apart]
    rfl
  · simp only [State.grantRange, State.withSlot_val, if_neg used, offer, if_neg (Nat.not_le.2 room),
      State.clashSlot_eq_some clash least]
    rfl

theorem exec_revoke {index : Nat} {r : Range} (used : (s.session i).state ≠ .free)
    (named : (s.session i).ranges[index]? = some r) :
    let left := (s.session i).ranges.eraseIdx index
    let bare := s.uncoveredBy i index
    (bare = [] → exec (.revoke i.val index) s = .next (answered (s.setSession i { s.session i with ranges := left })
      { kind := 0xA2, result := .ok, fields := [.u8 left.length] })) ∧
    (bare ≠ [] → exec (.revoke i.val index) s = .next (answered s
      { kind := 0xA2, result := .tasksPresent, fields := [.u16 bare.length] })) := by
  have below : ¬ (s.session i).ranges.length ≤ index := Nat.not_le.2 (List.getElem?_eq_some_iff.1 named).1
  refine ⟨fun none => exec_answers rfl takes ?_, fun some => exec_answers rfl takes ?_⟩
  · simp only [State.revokeRange, State.withSlot_val, if_neg used, if_neg below, none, List.length_nil, ne_eq, not_true_eq_false,
      if_false]
    rfl
  · simp only [State.revokeRange, State.withSlot_val, if_neg used, if_neg below,
      if_pos (show (s.uncoveredBy i index).length ≠ 0 from mt List.length_eq_zero_iff.1 some)]
    rfl

end Taken

/-- Settles O19. -/
theorem sessionRequestsAreTaken : Obligations.SessionRequestsAreTaken := by
  refine ⟨fun s i takes => ⟨fun c priority free low => exec_openSession takes c free low,
      fun priority p used before low => exec_setPriority takes used before low⟩,
    fun s i b first last takes used inService low ordered high room => ?_, fun s i index r takes used named => ?_,
    fun s i takes active => ⟨_, exec_answers rfl takes (by simp only [State.suspendSession, State.withSlot_val, active]; rfl), ?_,
      fun l => ?_⟩⟩
  · have grant := exec_grant takes b used inService low ordered high room
    simp only [State.clashesWith_iff] at grant
    exact grant
  · have revoke := exec_revoke takes used named
    simp only [State.uncoveredBy_eq s named] at revoke
    exact revoke
  · rw [State.liveTasks_eq]
    rfl
  · simp only [answered, State.endHoldsOf]
    exact ((s.setSession i _).loc_mapLocs l _).trans rfl

/-! ### RESUME (R14, R15) -/

theorem heldConfirmation_eq (i : Fin 8) (u : State) (n : Nat) (e : PendingEntry) :
    heldConfirmation i (u, n) e = ((u.applyEntry i e).1, n + (u.applyEntry i e).2.toNat) := by
  unfold heldConfirmation State.applyEntry
  dsimp only
  cases u.findTask e.task with
  | none => rfl
  | some t =>
    dsimp only
    split
    · rfl
    · split
      · rfl
      · rfl

theorem foldl_heldConfirmation (i : Fin 8) (u : State) (n : Nat) (es : List PendingEntry) :
    es.foldl (heldConfirmation i) (u, n) = ((u.applyEntries i es).1, n + (u.applyEntries i es).2) := by
  induction es generalizing u n with
  | nil => rfl
  | cons e es ih => rw [List.foldl_cons, heldConfirmation_eq, ih, Nat.add_assoc]; rfl

theorem State.applyEntries_le (u : State) (i : Fin 8) (es : List PendingEntry) : (u.applyEntries i es).2 ≤ es.length := by
  induction es generalizing u with
  | nil => exact Nat.le_refl 0
  | cons e es ih =>
    have rest := ih (u.applyEntry i e).1
    have first := (u.applyEntry i e).2.toNat_le
    simp only [State.applyEntries, List.length_cons]
    omega

/-- Settles O20. -/
theorem resumeAppliesHeldConfirmations : Obligations.ResumeAppliesHeldConfirmations := by
  intro s i takes suspended
  have sessions (j : Fin 8) : (s.applyEntries i (s.session i).pending).1.session j = s.session j := by simp
  simp only [foldl_heldConfirmation, Nat.zero_add]
  refine ⟨exec_answers rfl takes ?_, s.applyEntries_le i _, sessions⟩
  simp only [State.resumeSession, State.withSlot_val, suspended, sessions]
  rfl

/-! ### CLOSE_SESSION (R17) -/

/-- Freeing tasks touches sessions, tasks and locations only. -/
theorem State.freeTasks_eq (s : State) (ts : List Task) : ts.foldl State.freeTask s =
    { s with sessions := (ts.foldl State.freeTask s).sessions, tasks := (ts.foldl State.freeTask s).tasks,
             locs := (ts.foldl State.freeTask s).locs } := by
  have kept := s.freeTasks_frame ts
  generalize ts.foldl State.freeTask s = u at kept ⊢
  cases u
  cases s
  simp_all

/-- CLOSE_SESSION touches sessions, tasks and locations only. -/
theorem closeSession_eq (s : State) (i : Fin 8) :
    let u := (((s.liveTasks i).foldl State.freeTask (s.endHoldsOf i)).endLingersOf i).setSession i Session.initial
    u = { s with sessions := u.sessions, tasks := u.tasks, locs := u.locs } := by
  have whole := (s.endHoldsOf i).freeTasks_eq (s.liveTasks i)
  generalize (s.liveTasks i).foldl State.freeTask (s.endHoldsOf i) = u at whole ⊢
  rw [whole]
  rfl

section Close

variable {s : State} (ids : (s.tasks.map Task.id).Nodup) (i : Fin 8)
include ids

/-- A task is freed exactly if it is WAITING or OPEN and of the session. -/
theorem any_liveTasks {t : Task} (ht : t ∈ s.tasks) :
    ((s.liveTasks i).any fun u => u.id == t.id) = decide (t.slot = i ∧ t.state ≠ .closed) := by
  rw [Bool.eq_iff_iff, State.liveTasks_eq]
  simp only [List.any_eq_true, List.mem_filter, decide_eq_true_eq, beq_iff_eq]
  constructor
  · rintro ⟨u, ⟨hu, of_session⟩, same⟩
    exact eq_of_id ids hu ht same ▸ of_session
  · exact fun of_session => ⟨t, ⟨ht, of_session⟩, rfl⟩

/-- A hold that names no task of the session names no freed task. -/
theorem hold_of_liveTasks (h : Hold) (l : Loc) (other : s.holdOf i h = false) :
    ((s.liveTasks i).any fun u => u.id == h.task && u.loc == l) = false := by
  by_contra named
  rw [Bool.not_eq_false, List.any_eq_true] at named
  obtain ⟨u, hu, same⟩ := named
  obtain ⟨stored, of_session⟩ := List.mem_filter.1 (s.liveTasks_eq i ▸ hu)
  have found := State.findTask_of_mem ids stored
  have : u.id = h.task := (by simpa using same : u.id = h.task ∧ u.loc = l).1
  rw [State.holdOf, ← this, found] at other
  simp at other of_session
  exact other of_session.1

/-- The state after CLOSE_SESSION's freeing (R17). -/
theorem closeSession_spec :
    let u := (((s.liveTasks i).foldl State.freeTask (s.endHoldsOf i)).endLingersOf i).setSession i Session.initial
    u.tasks = (s.tasks.filter fun t => !decide (t.slot = i ∧ t.state ≠ .closed)) ∧
    (∀ j, u.session j = if j = i then Session.initial else s.session j) ∧
    ∀ l, u.loc l = { s.loc l with
      tasks := (s.loc l).tasks.filter fun id => !(s.liveTasks i).any fun u => decide (u.id = id ∧ u.loc = l),
      rot := { (s.loc l).rot with
        hold := (s.loc l).rot.hold.filter fun h => !s.holdOf i h,
        linger := (s.loc l).rot.linger.filter fun g => decide (g.slot ≠ i) } } := by
  obtain ⟨tasks, locs, sessions⟩ := (s.endHoldsOf i).freeTasks_spec (s.liveTasks i)
  refine ⟨?_, fun j => ?_, fun l => ?_⟩
  · simp only [State.setSession_frame, State.endLingersOf_frame, tasks, State.endHoldsOf_frame]
    exact List.filter_congr fun t ht => congrArg not (any_liveTasks ids i ht)
  · rw [State.session_setSession]
    split
    · rfl
    next other =>
      have apart (e : PendingEntry) : ((s.liveTasks i).any fun t => t.id == e.task && t.slot == j) = false := by
        rw [List.any_eq_false, State.liveTasks_eq]
        intro t ht
        have slot : t.slot = i := (by simpa using (List.mem_filter.1 ht).2 : t.slot = i ∧ _).1
        simp [slot, Ne.symm other]
      simp only [State.endLingersOf_frame, sessions, State.endHoldsOf_frame, apart, Bool.not_false, List.filter_true]
  · have lists (id : Nat) : ((s.liveTasks i).any fun t => t.id == id && t.loc == l) =
        (s.liveTasks i).any fun t => decide (t.id = id ∧ t.loc = l) := by simp only [Bool.decide_and, beq_eq_decide]
    have holds : (fun h => !s.holdOf i h && !(s.liveTasks i).any fun t => decide (t.id = h.task ∧ t.loc = l)) =
        fun h => !s.holdOf i h := by
      funext h
      cases other : s.holdOf i h with
      | true => rfl
      | false => rw [← lists, hold_of_liveTasks ids i h l other]; rfl
    have lingers : (fun g : Linger => g.slot != i) = fun g => decide (g.slot ≠ i) := by
      funext g
      rw [Bool.eq_iff_iff]
      simp
    have held : (s.endHoldsOf i).loc l = { s.loc l with rot := { (s.loc l).rot with
        hold := (s.loc l).rot.hold.filter fun h => !s.holdOf i h } } := s.loc_mapLocs l _
    simp only [State.setSession_frame, State.endLingersOf, State.loc_mapLocs, locs, held, State.optionFilter_filter, holds, lists,
      lingers]

end Close

/-- Settles O21. -/
theorem closeSessionFreesItsTasks : Obligations.CloseSessionFreesItsTasks := by
  intro s i takes used ids
  obtain ⟨tasks, sessions, locs⟩ := closeSession_spec ids i
  refine ⟨_, exec_answers rfl takes (by simp only [State.closeSession, State.withSlot_val, if_neg used]; rfl), ?_, fun l => ?_⟩
  · have whole := closeSession_eq s i
    have table := State.ext_sessions (t := s.setSession i Session.initial) fun j => (sessions j).trans (s.session_setSession i j _).symm
    rw [← State.liveTasks_eq, ← tasks, ← show _ = s.sessions.set i.val Session.initial from table]
    exact congrArg (fun u => answered u (answerOf 0x26 .ok [.u16 (s.liveTasks i).length, .u8 (s.session i).pending.length])) whole
  · rw [← State.liveTasks_eq]
    exact (loc_answered ..).trans (locs l)

end Sys2Proof.Machine
end

section
/-! The checks of POST_TASK and what it does when it is taken; what AMEND_TASK and QUERY_TASK do. Settles O22, O23, O24 and O27. -/

namespace Sys2Proof.Machine

open Sys2Proof.Claims

/-! ### POST_TASK: the checks (R27) -/

theorem State.findTask_eq_find (s : State) (id : Nat) : s.findTask id = s.tasks.find? fun t => decide (t.id = id) := by
  simp only [State.findTask, beq_eq_decide]

/-- Checks 8 and 9 of R27. -/
def State.roomRefusal (s : State) (l : Loc) : Option (Reason × List Field) :=
  if 512 ≤ s.tasks.length then some (.storeFull, [.u16 s.closedCount])
  else if 8 ≤ (s.loc l).tasks.length then some (.listFull, []) else none

/-- The refusal of a POST_TASK as the model decides it, check by check. -/
def State.postCheck (s : State) (id slot bus node requested shortMode pred : Nat) : Option (Reason × List Field) :=
  if id = 0 ∨ 65535 < id then some (.badField, [])
  else
    match s.findTask id with
    | some t => some (.taskExists, [.u8 t.state.code])
    | none =>
      match slotOf slot with
      | none => some (.badField, [])
      | some i =>
        if (s.session i).state = .free then some (.noSession, [])
        else
          match s.locOf bus node with
          | none => some (.noLocation, [])
          | some l =>
            if (s.session i).covers l = false then some (.notPermitted, [])
            else if requested = 0 ∨ 999 < requested then some (.badField, [])
            else
              match ShortMode.ofCode shortMode with
              | none => some (.badField, [])
              | some _ => (s.predRefusal i pred).or (s.roomRefusal l)

theorem State.postAt_refused {s : State} {id : Nat} {i : Fin 8} {l : Loc} {requested : Nat} {mode : ShortMode} {pred : Nat}
    {r : Reason} {fields : List Field} (refusal : (s.predRefusal i pred).or (s.roomRefusal l) = some (r, fields)) :
    s.postAt id i l requested mode pred = s.refuse 0x30 r fields := by
  unfold State.postAt
  cases check : s.predRefusal i pred with
  | some p =>
    rw [check] at refusal
    cases refusal
    rfl
  | none =>
    rw [check, Option.none_or, State.roomRefusal] at refusal
    dsimp only
    split at refusal
    next full => rw [if_pos full]; cases refusal; rfl
    next free =>
      rw [if_neg free]
      split at refusal
      next full => rw [if_pos full]; cases refusal; rfl
      next => cases refusal

/-- A POST_TASK that fails a check is refused for it, and changes nothing (R27). -/
theorem State.postTask_refused {s : State} {id slot bus node requested shortMode pred : Nat} {r : Reason} {fields : List Field}
    (refusal : s.postCheck id slot bus node requested shortMode pred = some (r, fields)) :
    s.postTask id slot bus node requested shortMode pred = s.refuse 0x30 r fields := by
  unfold State.postCheck at refusal
  unfold State.postTask
  split at refusal
  next bad => rw [if_pos bad]; cases refusal; rfl
  next good =>
    rw [if_neg good]
    cases taken : s.findTask id with
    | some t => rw [taken] at refusal; cases refusal; rfl
    | none =>
      rw [taken] at refusal
      cases named : slotOf slot with
      | none => rw [named] at refusal; cases refusal; rfl
      | some i =>
        rw [named] at refusal
        dsimp only at refusal ⊢
        split at refusal
        next free => rw [if_pos free]; cases refusal; rfl
        next used =>
          rw [if_neg used]
          cases place : s.locOf bus node with
          | none => rw [place] at refusal; cases refusal; rfl
          | some l =>
            rw [place] at refusal
            dsimp only at refusal ⊢
            split at refusal
            next bare => rw [if_pos bare]; cases refusal; rfl
            next covered =>
              rw [if_neg covered]
              split at refusal
              next bad => rw [if_pos bad]; cases refusal; rfl
              next quantity =>
                rw [if_neg quantity]
                cases mode : ShortMode.ofCode shortMode with
                | none => rw [mode] at refusal; cases refusal; rfl
                | some m => rw [mode] at refusal; exact State.postAt_refused refusal

theorem ShortMode.ofCode_code (m : ShortMode) : ShortMode.ofCode m.code = some m := by cases m <;> rfl

theorem ShortMode.ofCode_none {code : Nat} (above : 1 < code) : ShortMode.ofCode code = none := by
  unfold ShortMode.ofCode
  split
  all_goals first | rfl | omega

theorem ShortMode.exists_code {code : Nat} (low : code ≤ 1) : ∃ m : ShortMode, m.code = code := by
  interval_cases code
  · exact ⟨.close, rfl⟩
  · exact ⟨.keep, rfl⟩

/-- Bus and node numbers that name a location of a bus in service. -/
theorem State.exists_loc {s : State} {bus node : Nat} (named : ¬ nowhere s bus node) :
    ∃ l : Loc, l.bus.val = bus ∧ l.node = node ∧ s.inService l.bus = true := by
  unfold nowhere at named
  obtain ⟨b, rfl, inService⟩ := State.exists_inService (s := s) (bus := bus) (by unfold State.busesInService; omega)
  exact ⟨{ bus := b, idx := ⟨node - 1, by omega⟩ }, rfl, by simp only [Loc.node]; omega, inService⟩

theorem Session.covers_eq_false (x : Session) (l : Loc) : x.covers l = false ↔
    (x.ranges.all fun r => !decide (r.bus.val = l.bus.val ∧ r.first ≤ l.node ∧ l.node ≤ r.last)) = true := by
  have same (r : Range) : r.covers l = decide (r.bus.val = l.bus.val ∧ r.first ≤ l.node ∧ l.node ≤ r.last) := by
    rw [Bool.eq_iff_iff]
    simp [Range.covers, and_assoc, Fin.ext_iff]
  simp only [Session.covers, same, List.any_eq_false, List.all_eq_true, Bool.not_eq_true']
  simp

theorem State.closedCount_eq (s : State) : s.closedCount = Claims.taskCount s fun t => decide (t.state = .closed) := by
  rw [State.closedCount, Claims.taskCount, List.countP_eq_length_filter]
  simp only [beq_eq_decide]

/-- The statement's checks 7 to 9 for a session and a location are the model's. -/
theorem laterRefusal_eq (s : State) (i : Fin 8) (l : Loc) (pred : Nat) (room : s.tasks.length ≤ 512) :
    (let later : Option (Reason × List Field) :=
        if s.tasks.length = 512 then some (.storeFull, [.u16 (Claims.taskCount s fun t => decide (t.state = .closed))])
        else if h2 : l.bus.val < 4 ∧ l.node - 1 < 62 then
          if 8 ≤ (s.loc { bus := ⟨l.bus.val, h2.1⟩, idx := ⟨l.node - 1, h2.2⟩ }).tasks.length then some (.listFull, []) else none
        else none
      if pred = 0 then later
      else match s.tasks.find? fun t => decide (t.id = pred) with
        | none => some (.noTask, [])
        | some p =>
          if p.slot.val ≠ i.val ∨ p.state = .closed then some (.taskState, [])
          else match p.succ with
            | some q => some (.chainTaken, [.u16 q])
            | none => later) = (s.predRefusal i pred).or (s.roomRefusal l) := by
  have later : (if s.tasks.length = 512 then some (Reason.storeFull, [.u16 (Claims.taskCount s fun t => decide (t.state = .closed))])
      else if h2 : l.bus.val < 4 ∧ l.node - 1 < 62 then
        if 8 ≤ (s.loc { bus := ⟨l.bus.val, h2.1⟩, idx := ⟨l.node - 1, h2.2⟩ }).tasks.length then some (.listFull, []) else none
      else none) = s.roomRefusal l := by
    have named : l.bus.val < 4 ∧ l.node - 1 < 62 := ⟨l.bus.isLt, by have := l.idx.isLt; simp only [Loc.node]; omega⟩
    have full : s.tasks.length = 512 ↔ 512 ≤ s.tasks.length := by omega
    simp only [State.roomRefusal, State.closedCount_eq, dif_pos named, full]
    rfl
  simp only [later, State.predRefusal, ← State.findTask_eq_find]
  by_cases first : pred = 0
  · rw [if_pos first, if_pos first, Option.none_or]
  · rw [if_neg first, if_neg first]
    cases s.findTask pred with
    | none => rfl
    | some p =>
      have same : (p.slot.val ≠ i.val ∨ p.state = .closed) ↔ (p.slot ≠ i ∨ p.live = false) := by
        simp [Task.live, Fin.ext_iff]
      simp only [same]
      split
      · rfl
      · cases p.succ <;> rfl

/-- The statement's checks are the model's (R27). -/
theorem postRefusal_eq (s : State) (id slot bus node requested shortMode pred : Nat) (room : s.tasks.length ≤ 512) :
    postRefusal s id slot bus node requested shortMode pred = s.postCheck id slot bus node requested shortMode pred := by
  unfold postRefusal State.postCheck
  rw [← State.findTask_eq_find]
  refine if_congr (by rw [Nat.lt_one_iff]) rfl ?_
  cases s.findTask id
  case some t => rfl
  by_cases above : 7 < slot
  · rw [dif_pos above, State.slotOf_none above]
  rw [dif_neg above]
  obtain ⟨i, rfl⟩ : ∃ i : Fin 8, i.val = slot := ⟨⟨slot, by omega⟩, rfl⟩
  rw [State.slotOf_val]
  dsimp only
  split
  · rfl
  by_cases outside : nowhere s bus node
  · rw [State.locOf_none outside]
    exact if_pos outside
  refine (if_neg outside).trans ?_
  obtain ⟨l, rfl, rfl, inService⟩ := State.exists_loc outside
  rw [State.locOf_val inService]
  simp only [Session.covers_eq_false]
  split
  · rfl
  by_cases above : 1 < shortMode
  · rw [if_pos (.inr (.inr above)), ShortMode.ofCode_none above]
    split <;> rfl
  obtain ⟨mode, rfl⟩ := ShortMode.exists_code (Nat.le_of_not_lt above)
  rw [ShortMode.ofCode_code]
  exact if_congr (by simp only [above, or_false, Nat.lt_one_iff]) rfl (laterRefusal_eq s i l pred room)

/-- Settles O22. -/
theorem postTaskChecksInOrder : Obligations.PostTaskChecksInOrder := by
  intro s id slot bus node requested shortMode pred r fields takes room refusal
  rw [postRefusal_eq s _ _ _ _ _ _ _ room] at refusal
  exact exec_answers rfl takes (State.postTask_refused refusal)

/-! ### POST_TASK: the record placed (R28) -/

theorem State.placeTask_eq (s : State) (t : Task) : s.placeTask t =
    ({ s with tasks := s.tasks.map t.linkedTo ++ [t] }).setLoc t.loc
      { s.loc t.loc with tasks := (s.loc t.loc).tasks ++ [t.id] } := by
  rw [← s.tasks_placeTask t]
  unfold State.placeTask
  cases t.pred <;> rfl

theorem State.postAt_placed {s : State} {id : Nat} {i : Fin 8} {l : Loc} {requested : Nat} {mode : ShortMode} {pred : Nat}
    (passes : (s.predRefusal i pred).or (s.roomRefusal l) = none) :
    s.postAt id i l requested mode pred = (s.placeTask (newTask id i l requested mode pred), answerOf 0x30 .ok
      [.u16 id, .u8 (newTask id i l requested mode pred).state.code, .u8 ((s.loc l).tasks.length + 1)]) := by
  obtain ⟨linkable, room⟩ := Option.or_eq_none_iff.1 passes
  unfold State.roomRefusal at room
  split at room
  case isTrue => cases room
  next stored =>
    split at room
    case isTrue => cases room
    next listed =>
      simp only [State.postAt, linkable, if_neg stored, if_neg listed]

/-- A POST_TASK that passes every check places the record (R28). -/
theorem State.postTask_placed {s : State} {id : Nat} {i : Fin 8} {l : Loc} {requested : Nat} {mode : ShortMode} {pred : Nat}
    (passes : s.postCheck id i.val l.bus.val l.node requested mode.code pred = none) :
    s.postTask id i.val l.bus.val l.node requested mode.code pred =
      (s.placeTask (newTask id i l requested mode pred), answerOf 0x30 .ok
        [.u16 id, .u8 (newTask id i l requested mode pred).state.code, .u8 ((s.loc l).tasks.length + 1)]) := by
  unfold State.postCheck at passes
  unfold State.postTask
  rw [State.slotOf_val] at *
  split at passes
  case isTrue => cases passes
  next good =>
    rw [if_neg good]
    cases taken : s.findTask id with
    | some t => rw [taken] at passes; cases passes
    | none =>
      rw [taken] at passes
      dsimp only at passes ⊢
      split at passes
      case isTrue => cases passes
      next used =>
        rw [if_neg used]
        by_cases inService : s.inService l.bus = true
        · rw [State.locOf_val inService, ShortMode.ofCode_code] at *
          dsimp only at passes ⊢
          split at passes
          case isTrue => cases passes
          next covered =>
            rw [if_neg covered]
            split at passes
            case isTrue => cases passes
            next quantity =>
              rw [if_neg quantity]
              exact State.postAt_placed passes
        · have outside : nowhere s l.bus.val l.node := .inl (show s.busesInService ≤ l.bus.val by simpa [State.inService] using inService)
          rw [State.locOf_none outside] at passes
          cases passes

theorem linkedTo_newTask (id : Nat) (i : Fin 8) (l : Loc) (requested : Nat) (mode : ShortMode) (pred : Nat) :
    (newTask id i l requested mode pred).linkedTo = fun (u : Task) => if pred ≠ 0 ∧ u.id = pred then { u with succ := some id } else u := by
  funext u
  unfold Task.linkedTo newTask
  by_cases first : pred = 0
  · simp [first]
  · simp [first, eq_comm]

/-- Settles O23. -/
theorem postTaskPlacesTheTask : Obligations.PostTaskPlacesTheTask := by
  intro s id requested pred i l mode takes room passes
  rw [postRefusal_eq s _ _ _ _ _ _ _ room] at passes
  refine exec_answers rfl takes ?_
  simp only [State.postTask_placed passes, State.placeTask_eq, linkedTo_newTask]
  by_cases first : pred = 0
  · simp only [newTask, first]
    rfl
  · simp only [newTask, first]
    rfl

/-! ### AMEND_TASK and QUERY_TASK (R32, R33, R39) -/

theorem Task.live_eq_false (t : Task) : t.live = false ↔ t.state = .closed := by simp [Task.live]

theorem State.pendingCount_eq (s : State) (t : Task) :
    s.pendingCount t = ((s.session t.slot).pending.filter fun e => decide (e.task = t.id)).length := by
  rw [State.pendingCount, List.countP_eq_length_filter]
  simp only [beq_eq_decide]

/-- Settles O24. -/
theorem amendTaskResetsOffered : Obligations.AmendTaskResetsOffered := by
  intro s id requested takes
  refine ⟨fun missing => exec_answers rfl takes ?_, fun t found => ⟨fun o closed outcome => exec_answers rfl takes ?_,
    fun live bad => exec_answers rfl takes ?_, fun live low high => exec_answers rfl takes ?_⟩⟩
  · simp only [State.amendTask, missing]
    rfl
  · simp only [State.amendTask, found, if_pos ((Task.live_eq_false t).2 closed), Task.outcomeFields, outcome]
    rfl
  · simp only [State.amendTask, found, if_neg (mt (Task.live_eq_false t).1 live), if_pos bad]
    rfl
  · obtain rfl : t.id = id := (State.findTask_mem found).2
    have good : ¬ (requested ≤ t.picked ∨ 999 < requested) := by omega
    simp only [State.amendTask, found, if_neg (mt (Task.live_eq_false t).1 live), if_neg good, State.supersede, bne, beq_eq_decide,
      State.pendingCount_eq, State.dropPending, State.endHold, ne_eq, decide_not]
    rfl

/-- Settles O27. -/
theorem queryTaskReportsAndFreesClosed : Obligations.QueryTaskReportsAndFreesClosed := by
  intro s id takes
  refine ⟨fun missing => exec_answers rfl takes ?_, fun t found => exec_answers rfl takes ?_⟩
  · simp only [State.queryTask, missing]
    rfl
  · obtain rfl : t.id = id := (State.findTask_mem found).2
    by_cases closed : t.state = .closed
    · simp only [State.queryTask, found, State.taskFields, optFields_eq, State.pendingCount_eq, State.arrival, State.dropTask,
        (Task.live_eq_false t).2 closed, closed, Bool.false_eq_true, if_false, if_true, bne, beq_eq_decide, ne_eq, decide_not]
      simp only [answerOf, locFields, List.append_assoc, List.cons_append, List.nil_append]
      rfl
    · simp only [State.queryTask, found, State.taskFields, optFields_eq, State.pendingCount_eq, State.arrival,
        Task.live_iff.2 closed, closed, if_false, if_true]
      simp only [answerOf, locFields, List.append_assoc, List.cons_append, List.nil_append]
      rfl

end Sys2Proof.Machine
end

section
/-! What WITHDRAW_TASK leaves of the chain, without and with cascade. Settles O25 and O26. -/

namespace Sys2Proof.Machine

open Sys2Proof.Claims

/-! ### Without cascade (R35, R37) -/

theorem State.splice_eq (s : State) (t : Task) : s.splice t = { s with tasks := (s.splice t).tasks } := by
  unfold State.splice
  cases t.pred <;> cases t.succ <;> rfl

theorem State.setLoc_setLoc (s : State) (l : Loc) (x y : Location) : (s.setLoc l x).setLoc l y = s.setLoc l y := by
  simp [State.setLoc]

theorem State.freeTask_eq (s : State) (t : Task) : s.freeTask t =
    (({ s with tasks := s.tasks.filter fun x => decide (x.id ≠ t.id) }).setSession t.slot
      { s.session t.slot with pending := (s.session t.slot).pending.filter fun e => decide (e.task ≠ t.id) }).setLoc t.loc
      { s.loc t.loc with
        tasks := (s.loc t.loc).tasks.filter fun k => decide (k ≠ t.id),
        rot := { (s.loc t.loc).rot with hold := (s.loc t.loc).rot.hold.filter fun h => decide (h.task ≠ t.id) } } := by
  have relist (u : State) (x : Session) (y z : Location) :
      ((u.setLoc t.loc y).setSession t.slot x).setLoc t.loc z = (u.setSession t.slot x).setLoc t.loc z :=
    (u.setSession t.slot x).setLoc_setLoc t.loc y z
  simp only [State.freeTask, State.unlist, State.dropPending, State.endHold, State.dropTask, State.modRot, State.modLoc, relist,
    State.setSession_frame, State.loc_setLoc, State.setLoc_frame, if_true, bne, beq_eq_decide, ne_eq, decide_not]
  rfl

/-- Settles O25. -/
theorem withdrawSplicesTheChain : Obligations.WithdrawSplicesTheChain := by
  intro s id t takes store found live
  obtain ⟨core, -, -⟩ := (storeInv_iff s).1 store
  obtain ⟨stored, rfl⟩ := State.findTask_mem found
  have spliced := s.tasks_splice fun p before => core.linked.pred_ne_succ stored before
  have ran : exec (.withdrawTask t.id 0) s = .next (answered (s.withdrawOne t) (answerOf 0x32 .ok [.u16 1])) := by
    refine exec_answers rfl takes ?_
    simp only [State.withdrawTask, found, if_neg (mt (Task.live_eq_false t).1 live), if_true]
  refine ⟨_, ran, ?_, ?_⟩
  · rw [State.withdrawOne, State.freeTask_eq, State.splice_eq]
    rfl
  · have tasks : (answered (s.withdrawOne t) (answerOf 0x32 .ok [.u16 1])).tasks = ((s.splice t).freeTask t).tasks := rfl
    have kept : ((fun x : Task => x.id != t.id) ∘ t.afterSplice) = fun x => decide (x.id ≠ t.id) := by
      funext x
      simp only [Function.comp_apply, (t.afterSplice_keys x).1, bne, beq_eq_decide, ne_eq, decide_not]
    rw [tasks, State.tasks_freeTask, spliced, List.filter_map, kept]
    rfl

/-! ### With cascade (R36, R37) -/

theorem State.cutBefore_eq (s : State) (t : Task) : s.cutBefore t = { s with tasks := (s.cutBefore t).tasks } := by
  unfold State.cutBefore
  cases t.pred <;> rfl

/-- A WITHDRAW_TASK with cascade touches tasks, sessions and locations only. -/
theorem State.cascade_eq (s : State) (t : Task) (chain : List Task) : chain.foldl State.freeTask (s.cutBefore t) =
    { s with sessions := (chain.foldl State.freeTask (s.cutBefore t)).sessions,
             tasks := (chain.foldl State.freeTask (s.cutBefore t)).tasks,
             locs := (chain.foldl State.freeTask (s.cutBefore t)).locs } := by
  have whole := (s.cutBefore t).freeTasks_eq chain
  generalize chain.foldl State.freeTask (s.cutBefore t) = u at whole ⊢
  rw [s.cutBefore_eq t] at whole
  exact whole

namespace State.StoreCore

variable {s : State} (h : s.StoreCore) (id : Nat)
include h

/-- The ids of a cascade's chain are those of the stored tasks that are reached. -/
theorem any_chainFrom (q : Nat) : ((s.chainFrom 512 id).any fun x => x.id == q) = true ↔ (s.findTask q).isSome ∧ Reaches s id q := by
  simp only [List.any_eq_true, beq_iff_eq]
  constructor
  · rintro ⟨x, hx, rfl⟩
    obtain ⟨stored, reach⟩ := h.mem_chainFrom.1 hx
    exact ⟨by rw [h.stored stored]; rfl, reach⟩
  · rintro ⟨found, reach⟩
    obtain ⟨x, found⟩ := Option.isSome_iff_exists.1 found
    obtain ⟨stored, rfl⟩ := findTask_mem found
    exact ⟨x, h.mem_chainFrom.2 ⟨stored, reach⟩, rfl⟩

/-- A record is freed or stays. -/
theorem length_chainFrom : (s.chainFrom 512 id).length + (s.tasks.filter (staysBeside (s.chainFrom 512 id))).length = s.tasks.length := by
  have freed : (s.tasks.filter fun x => !staysBeside (s.chainFrom 512 id) x).Perm (s.chainFrom 512 id) := by
    refine (List.perm_ext_iff_of_nodup (h.ids.of_map.filter _) (h.chainFrom_ids 512 id).of_map).2 fun x => ?_
    rw [List.mem_filter, staysBeside, Bool.not_not, h.any_chainFrom, h.mem_chainFrom]
    exact ⟨fun ⟨stored, _, reach⟩ => ⟨stored, reach⟩, fun ⟨stored, reach⟩ => ⟨stored, by rw [h.stored stored]; rfl, reach⟩⟩
  rw [← freed.length_eq, Nat.add_comm]
  exact (s.tasks.length_eq_length_filter_add _).symm

/-- A task in a location's list leaves it exactly if it is reached. -/
theorem listed_freed {l : Loc} {q : Nat} (listed : q ∈ (s.loc l).tasks) :
    ((s.chainFrom 512 id).any fun x => x.id == q && x.loc == l) = true ↔ Reaches s id q := by
  obtain ⟨x, stored, rfl, -, rfl⟩ := (h.listed l q).1 listed
  simp only [List.any_eq_true, Bool.and_eq_true, beq_iff_eq]
  constructor
  · rintro ⟨y, hy, same, -⟩
    exact same ▸ (h.mem_chainFrom.1 hy).2
  · exact fun reach => ⟨x, h.mem_chainFrom.2 ⟨stored, reach⟩, rfl, rfl⟩

theorem hold_freed (l : Loc) (q : Nat) :
    ((s.chainFrom 512 id).any fun x => x.id == q && x.loc == l) = true ↔
      Reaches s id q ∧ ∃ x, s.findTask q = some x ∧ x.loc = l := by
  simp only [List.any_eq_true, Bool.and_eq_true, beq_iff_eq]
  constructor
  · rintro ⟨y, hy, rfl, rfl⟩
    obtain ⟨stored, reach⟩ := h.mem_chainFrom.1 hy
    exact ⟨reach, y, h.stored stored, rfl⟩
  · rintro ⟨reach, x, found, rfl⟩
    obtain ⟨stored, rfl⟩ := findTask_mem found
    exact ⟨x, h.mem_chainFrom.2 ⟨stored, reach⟩, rfl, rfl⟩

/-- A held confirmation leaves its list exactly if its task is reached. -/
theorem pending_freed {i : Fin 8} (held : s.HeldOpen i) {e : PendingEntry} (he : e ∈ (s.session i).pending) :
    ((s.chainFrom 512 id).any fun x => x.id == e.task && x.slot == i) = true ↔ Reaches s id e.task := by
  obtain ⟨x, stored, names, -, rfl⟩ := held e he
  rw [← names]
  simp only [List.any_eq_true, Bool.and_eq_true, beq_iff_eq]
  constructor
  · rintro ⟨y, hy, same, -⟩
    exact same ▸ (h.mem_chainFrom.1 hy).2
  · exact fun reach => ⟨x, h.mem_chainFrom.2 ⟨stored, reach⟩, rfl, rfl⟩

end State.StoreCore

/-- The record of an id after a cascade. -/
theorem State.findTask_cascade (s : State) (chain : List Task) (t : Task) (q : Nat) :
    ((s.tasks.map t.afterCut).filter fun u => !chain.any fun x => x.id == u.id).find? (fun u => u.id == q) =
      if (chain.any fun x => x.id == q) = true then none else (s.findTask q).map t.afterCut := by
  rw [List.find?_filter, List.find?_map]
  have looks : (fun u : Task => decide ((!chain.any fun x => x.id == u.id) = true ∧ (u.id == q) = true)) ∘ t.afterCut =
      fun u : Task => u.id == q && !chain.any fun x => x.id == q := by
    funext u
    rw [Function.comp_apply, (t.afterCut_keys u).1, Bool.eq_iff_iff]
    by_cases named : u.id = q <;> simp [named]
  rw [looks]
  split
  next freed => simp [freed]
  next stays => simp only [stays, Bool.not_false, Bool.and_true]; rfl

/-- Settles O26. -/
theorem cascadeFreesTheFollowers : Obligations.CascadeFreesTheFollowers := by
  intro s id t takes store found live
  obtain ⟨core, -, held⟩ := (storeInv_iff s).1 store
  have ran : exec (.withdrawTask id 1) s = .next (answered ((s.chainFrom 512 id).foldl State.freeTask (s.cutBefore t))
      (answerOf 0x32 .ok [.u16 (s.chainFrom 512 id).length])) := by
    refine exec_answers rfl takes ?_
    simp only [State.withdrawTask, found, if_neg (mt (Task.live_eq_false t).1 live), Nat.one_ne_zero, if_false, if_true]
  have whole := s.cascade_eq t (s.chainFrom 512 id)
  obtain ⟨tasks, locs, sessions⟩ := (s.cutBefore t).freeTasks_spec (s.chainFrom 512 id)
  have same_loc (l : Loc) : (s.cutBefore t).loc l = s.loc l := by simp
  have same_session (i : Fin 8) : (s.cutBefore t).session i = s.session i := by simp
  generalize (s.chainFrom 512 id).foldl State.freeTask (s.cutBefore t) = u at ran whole tasks locs sessions
  rw [s.tasks_cutBefore] at tasks
  simp only [same_loc, same_session] at locs sessions
  have find (q : Nat) : u.findTask q =
      if ((s.chainFrom 512 id).any fun x => x.id == q) = true then none else (s.findTask q).map t.afterCut := by
    rw [State.findTask, tasks, State.findTask_cascade]
  have stays {b : Bool} {p : Prop} (freed : b = true ↔ p) : (!b) = true ↔ ¬ p := by rw [← freed, Bool.not_eq_true', Bool.not_eq_true]
  refine ⟨_, _, ran, congrArg (fun u => answered u (answerOf 0x32 .ok [.u16 (s.chainFrom 512 id).length])) whole, ?_, fun q reach => ?_,
    fun q apart => ?_, fun l => ?_, fun l q => ?_, fun l k => ?_, fun i => ?_, fun i e => ?_⟩
  · have kept : (fun x : Task => !(s.chainFrom 512 id).any fun y => y.id == x.id) ∘ t.afterCut = staysBeside (s.chainFrom 512 id) := by
      funext x
      simp only [Function.comp_apply, (t.afterCut_keys x).1, staysBeside]
    change (s.chainFrom 512 id).length + u.tasks.length = s.tasks.length
    rw [tasks, List.filter_map, List.length_map, kept, core.length_chainFrom]
  · change u.findTask q = none
    rw [find]
    split
    · rfl
    next kept =>
      cases missing : s.findTask q with
      | none => rfl
      | some x => exact absurd ((core.any_chainFrom id q).2 ⟨by rw [missing]; rfl, reach⟩) kept
  · change u.findTask q = _
    rw [find, if_neg fun freed => apart ((core.any_chainFrom id q).1 freed).2]
    rfl
  · rw [loc_answered, locs]
  · rw [loc_answered, locs, List.mem_filter]
    exact and_congr_right fun listed => stays (core.listed_freed id listed)
  · rw [loc_answered, locs]
    simp only [Option.filter_eq_some_iff, stays (core.hold_freed id l k.task)]
  · change u.session i = { s.session i with pending := (u.session i).pending }
    rw [sessions]
  · change e ∈ (u.session i).pending ↔ _
    rw [sessions, List.mem_filter]
    exact and_congr_right fun listed => stays (core.pending_freed id (held i) listed)

end Sys2Proof.Machine
end

section
/-! The parts of a sweep, an attempt, the classification of an answer and the timers. Settles O31, O38 and O39. -/

namespace Sys2Proof.Machine

open Sys2Proof.Claims

/-! ### The parts of a sweep (R115) -/

theorem lost_iff (x : Location) : (x.state == .lost) = true ↔ x.state = .lost := beq_iff_eq

/-- The first location from an index on with a property, as `State.firstLoc` finds it. -/
theorem firstLoc_of_firstFrom {s : State} {b : Fin 4} {k : Nat} {p : Location → Prop} {q : Location → Bool} {i : Fin 62}
    (h : firstFrom s b k p i) (tests : ∀ x, q x = true ↔ p x) : s.firstLoc b k q = some i := by
  obtain ⟨from_k, here, before⟩ := h
  exact State.firstLoc_eq_some from_k ((tests _).2 here) fun j hk hj => Bool.eq_false_iff.2 fun hq => before j hk hj ((tests _).1 hq)

theorem firstLoc_of_noneFrom {s : State} {b : Fin 4} {k : Nat} {p : Location → Prop} {q : Location → Bool}
    (h : noneFrom s b k p) (tests : ∀ x, q x = true ↔ p x) : s.firstLoc b k q = none :=
  State.firstLoc_eq_none fun j hk => Bool.eq_false_iff.2 fun hq => h j hk ((tests _).1 hq)

section Parts

variable {s : State} {b : Fin 4} {k : Nat} (close : State → State)

theorem visitPart_visits {i : Fin 62} (first : firstFrom s b k (fun x => x.state = .present ∨ x.state = .suspect) i) :
    s.visitPart b k close = s.attempt { bus := b, idx := i } false := by
  rw [State.visitPart, firstLoc_of_firstFrom first Location.visited_iff]

theorem visitPart_polls (none : noneFrom s b k fun x => x.state = .present ∨ x.state = .suspect) :
    s.visitPart b k close = s.pollPart b 0 close := by
  rw [State.visitPart, firstLoc_of_noneFrom none Location.visited_iff]

theorem pollPart_asks {i : Fin 62} (eighth : (s.bus b).counter % 8 = 0) (first : firstFrom s b k (fun x => x.state = .lost) i) :
    s.pollPart b k close = s.setBus b { s.bus b with sent := [.identify (i.val + 1)], exchange := .poll i } := by
  rw [State.pollPart, if_pos eighth, firstLoc_of_firstFrom first lost_iff]
  rfl

theorem pollPart_ends (eighth : (s.bus b).counter % 8 = 0) (none : noneFrom s b k fun x => x.state = .lost) :
    s.pollPart b k close = s.refillPart b close := by
  rw [State.pollPart, if_pos eighth, firstLoc_of_noneFrom none lost_iff]

theorem pollPart_skips (other : (s.bus b).counter % 8 ≠ 0) : s.pollPart b k close = s.refillPart b close := if_neg other

/-- With none or several LOST locations there is no probe (R120, R121). -/
theorem refillPart_closes (several : s.countPresence b .lost ≠ 1) : s.refillPart b close = close s := by
  unfold State.refillPart
  split
  · exact if_neg several
  · rfl

/-- With one LOST location the probe looks for it (R120). -/
theorem refillPart_probes {i : Fin 62} (one : ∀ j, (s.loc { bus := b, idx := j }).state = .lost ↔ j = i) :
    s.refillPart b close = s.setBus b { s.bus b with sent := [.look i.val], exchange := .probeLook i } := by
  have first : firstFrom s b 0 (fun x => x.state = .lost) i :=
    ⟨Nat.zero_le _, (one i).2 rfl, fun j _ before lost => absurd ((one j).1 lost) (ne_of_lt before)⟩
  have tests : (fun j : Fin 62 => (s.loc { bus := b, idx := j }).state == .lost) = fun j => j == i := by
    funext j
    rw [Bool.eq_iff_iff, beq_iff_eq, beq_iff_eq, one]
  have count : s.countPresence b .lost = 1 := by
    rw [State.countPresence, State.countP_locs, tests]
    exact List.count_eq_one_of_mem (List.nodup_finRange 62) (List.mem_finRange i)
  rw [State.refillPart, firstLoc_of_firstFrom first lost_iff]
  exact if_pos count

end Parts

theorem State.attempt_eq (s : State) (l : Loc) (second : Bool) :
    s.attempt l second = (s.setLoc l { s.loc l with rot := (s.choose l).settle s.now }).setBus l.bus { s.bus l.bus with
      exchange := .visit l.idx second, sweepVisited := true,
      sent := [.lamp l.node ((s.choose l).settle s.now).face
        (if ((s.choose l).settle s.now).face.colour = none then 0 else (s.governor l.bus).scale)
        (decide ((s.governor l.bus).mode = .alternate)) (s.bus l.bus).phase (s.loc l).ack ((s.choose l).settle s.now).token] } := by
  have planned : (s.plan l).loc l = { s.loc l with rot := (s.choose l).settle s.now } := by
    simp [State.plan, State.modRot, State.modLoc]
  have dark (c : Option Colour) (n : Nat) : (if c.isSome = true then n else 0) = if c = none then 0 else n := by cases c <;> rfl
  simp only [State.attempt, State.sendFrames, State.lampFrame, State.modBus, planned, dark, beq_eq_decide, State.plan_frame,
    State.bus_setBus, if_true, State.setBus_setBus]
  rfl

/-- Settles O31. -/
theorem sweepPartsFollowInOrder : Obligations.SweepPartsFollowInOrder := by
  refine ⟨fun s b k close => ?_, fun s l second => s.attempt_eq l second⟩
  have count : (List.finRange 62).countP (fun i => decide ((s.loc { bus := b, idx := i }).state = .lost)) = s.countPresence b .lost := by
    rw [State.countPresence, State.countP_locs]
    simp only [beq_eq_decide]
  have refill : (if (List.finRange 62).countP (fun i => decide ((s.loc { bus := b, idx := i }).state = .lost)) = 1
      then s.refillPart b close else close s) = s.refillPart b close := by
    rw [count]
    split
    · rfl
    next several => exact (refillPart_closes close several).symm
  refine ⟨fun i first => visitPart_visits close first, fun none => visitPart_polls close none,
    fun i eighth first => pollPart_asks close eighth first, fun eighth none => ?_, fun other => ?_, fun i one => refillPart_probes close one⟩
  · exact (pollPart_ends close eighth none).trans refill.symm
  · exact (pollPart_skips close other).trans refill.symm

/-! ### Classification (R94 to R96) -/

/-- The classification as the rows of the table (R94). -/
theorem Location.classified_eq (x : Location) (id : Identity) : x.classified id =
    if ModuleKind.ofCode id.code = none then { state := .mismatch, cause := .mismatch, kind := x.kind, serial := x.serial }
    else if x.kind = none then { state := .present, cause := .new, kind := ModuleKind.ofCode id.code, serial := some id.serial }
    else if x.kind ≠ ModuleKind.ofCode id.code then
      { state := .mismatch, cause := .mismatch, kind := ModuleKind.ofCode id.code, serial := some id.serial }
    else if x.serial = some id.serial then { state := .present, cause := .returned, kind := x.kind, serial := x.serial }
    else { state := .present, cause := .replaced, kind := x.kind, serial := some id.serial } := by
  unfold Location.classified
  cases ModuleKind.ofCode id.code with
  | none => rfl
  | some k =>
    cases x.kind with
    | none => rfl
    | some k' =>
      by_cases same : k = k'
      · subst same
        by_cases returned : x.serial = some id.serial <;> simp [returned]
      · simp [same, Ne.symm same]

/-- Settles O38. -/
theorem classificationFollowsTheTable : Obligations.ClassificationFollowsTheTable := by
  intro s l id taken x known row u
  have table : x.classified id = { state := row.1, cause := row.2.1, kind := row.2.2.1, serial := row.2.2.2 } := by
    rw [Location.classified_eq]
    simp only [row]
    (repeat' split)
    all_goals rfl
  simp only [State.classifyAt, Location.classify]
  rw [show (s.loc l).classified id = _ from table]

/-! ### Timers (R91, R92, R109, R110, R132, R147) -/

/-- Settles O39. -/
theorem timersEndInTheirEvents : Obligations.TimersEndInTheirEvents := by
  intro s b walk
  refine ⟨fun due waits => ?_, fun due waits => ?_, fun due idle waits => ?_, fun due waits => ?_⟩
  · change execEnrolWaitEnd b s = _
    simp only [execEnrolWaitEnd, waits, Option.any_some, decide_eq_true_eq]
    rfl
  · change execResettingEnd b s = _
    simp only [execResettingEnd, waits, Option.any_some, decide_eq_true_eq]
    rfl
  · change execSampleStart b s = _
    simp only [execSampleStart, idle, waits, Option.any_some, decide_eq_true_eq, Bool.not_false, Bool.true_and]
    rfl
  · change execPhaseFlip b s = _
    simp only [execPhaseFlip, State.flipPhase, waits]
    rfl

end Sys2Proof.Machine
end

section
/-! How sweeps start and end, and how visits end. Settles O32, O33, O34 and O36. -/

namespace Sys2Proof.Machine

open Sys2Proof.Claims

/-! ### The end of a sweep (R114, R118, R121) -/

theorem mem_orderNotices (silent ambiguous : List Notice) (n : Notice) :
    n ∈ orderNotices silent ambiguous ↔ n ∈ silent ∨ n ∈ ambiguous := by
  unfold orderNotices
  split
  · simp
  · simp
  · split
    · exact List.mem_append
    · exact List.mem_append.trans or_comm

theorem nodup_orderNotices {silent ambiguous : List Notice} (h : (silent ++ ambiguous).Nodup) : (orderNotices silent ambiguous).Nodup := by
  unfold orderNotices
  split
  · exact h
  · simpa using h
  · split
    · exact h
    · exact List.nodup_append_comm.1 h

/-- The notices of a sweep end. -/
def State.sweepNotices (s : State) (b : Fin 4) : List Notice :=
  orderNotices
    (if ((s.bus b).sweepVisited && !(s.bus b).sweepGood) && !(s.bus b).silent then [Notice.bus b .silent none] else [])
    (if decide (2 ≤ s.countPresence b .lost) && !(s.bus b).ambiguous then [Notice.bus b .refillAmbiguous none] else [])

theorem State.closeSweep_eq (s : State) (b : Fin 4) : s.closeSweep b =
    (s.setBus b { s.bus b with
      exchange := .none, lastDuration := min 65535 (s.now - (s.bus b).sweepStart),
      silent := (s.bus b).silent || ((s.bus b).sweepVisited && !(s.bus b).sweepGood),
      ambiguous := decide (2 ≤ s.countPresence b .lost),
      scheduled := some ((s.bus b).sweepStart + (s.bus b).period) }).queueNotices (s.sweepNotices b) := rfl

theorem State.endSweep_eq (s : State) (b : Fin 4) : s.endSweep b =
    if (s.bus b).sweepStart + (s.bus b).period ≤ s.now then (s.closeSweep b).beginSweep b else s.closeSweep b := by
  unfold State.endSweep
  simp only []
  rw [s.closeSweep_bus b, s.closeSweep_now b]
  simp only [Option.any_some, decide_eq_true_eq]

theorem exec_sweepStart_due {s : State} {b : Fin 4} {due : Nat} (service : (s.bus b).state = .service)
    (idle : (s.bus b).exchange = .none) (scheduled : (s.bus b).scheduled = some due) (come : due ≤ s.now) :
    exec (.sweepStart b) s = .next (s.beginSweep b) := by
  change execSweepStart b s = _
  simp [execSweepStart, State.sweepDue, service, idle, scheduled, come]

theorem exec_sweepStart_early {s : State} {b : Fin 4} (early : (s.bus b).state ≠ .service ∨ (s.bus b).exchange ≠ .none ∨
    (s.bus b).scheduled = none ∨ (∃ due, (s.bus b).scheduled = some due ∧ s.now < due)) : exec (.sweepStart b) s = .next s := by
  change execSweepStart b s = _
  have wait : s.sweepDue b = false := by
    unfold State.sweepDue
    rcases early with state | busy | none | ⟨due, some, later⟩
    · simp [state]
    · simp [busy]
    · simp [none]
    · simp [some, later]
  rw [execSweepStart, wait]
  rfl

/-- Settles O36. -/
theorem sweepEndExaminesTheFlags : Obligations.SweepEndExaminesTheFlags := by
  intro s b c
  refine ⟨fun early => ?_, fun late => ⟨?_, fun service => ?_⟩, ?_⟩
  · rw [State.endSweep_eq, if_neg (Nat.not_le.2 early)]
  · rw [State.endSweep_eq, if_pos late]
  · have closed := s.closeSweep_bus b
    rw [State.endSweep_eq, if_pos late]
    exact exec_sweepStart_due (by rw [closed]; exact service) (by rw [closed]) (by rw [closed]) (by rw [s.closeSweep_now]; exact late)
  intro silent many
  have lost : s.countPresence b .lost = presenceCount s b .lost := s.countPresence_eq b .lost
  have is_silent : ((s.bus b).sweepVisited && !(s.bus b).sweepGood) = decide silent := by
    rw [Bool.eq_iff_iff]
    simp [silent, c]
  refine ⟨_, _, s.closeSweep_eq b, by rw [is_silent, lost], ?_, ?_, nodup_orderNotices ?_, fun n told => ?_⟩
  · simp only [State.sweepNotices, mem_orderNotices, is_silent, c]
    split <;> split <;> simp_all
  · simp only [State.sweepNotices, mem_orderNotices, lost, c]
    split <;> split <;> simp_all [many]
  · split <;> split <;> simp
  · simp only [State.sweepNotices, mem_orderNotices] at told
    rcases told with told | told
    · split at told
      · exact .inl (List.mem_singleton.1 told)
      · cases told
    · split at told
      · exact .inr (List.mem_singleton.1 told)
      · cases told

/-! ### Visits (R116, R117, R123) -/

theorem spoken_eq (s : State) (b : Fin 4) : spoken s b = s.goodAnswer b := rfl

theorem goOn_eq (s : State) (b : Fin 4) (i : Fin 62) : goOn s b i = s.nextVisit b i := rfl

section FailVisit

variable {s : State} {l : Loc}

theorem failVisit_suspects (few : (s.loc l).miss < 2) :
    s.failVisit l = s.setLoc l { s.loc l with miss := (s.loc l).miss + 1, state := .suspect } := by
  have counted : min 3 ((s.loc l).miss + 1) = (s.loc l).miss + 1 := by omega
  have suspect : (s.loc l).failed = { s.loc l with miss := (s.loc l).miss + 1, state := .suspect } := by
    simp only [Location.failed, counted, if_neg (show ¬ (s.loc l).miss + 1 = 3 by omega)]
  simp only [State.failVisit, State.modLoc, suspect, State.loc_setLoc, if_true, reduceCtorEq, if_false]

theorem failVisit_loses (twice : (s.loc l).miss = 2) :
    s.failVisit l = (s.setLoc l { s.loc l with miss := 3, state := .lost }).queueNotice
      (.location l .lost .lost (s.loc l).kind (s.loc l).serial) := by
  have lost : (s.loc l).failed = { s.loc l with miss := 3, state := .lost } := by
    simp only [Location.failed, twice]
    rfl
  simp only [State.failVisit, State.modLoc, lost, State.loc_setLoc, if_true]

end FailVisit

/-- Settles O34. -/
theorem unansweredVisitIsRetriedThenFails : Obligations.UnansweredVisitIsRetriedThenFails := by
  intro s b i l
  have unanswered {second : Bool} (visit : (s.bus b).exchange = .visit i second) :
      exec (.keysWindowExpiry b) s = .next (s.visitUnanswered l second) := by
    change execKeysWindowExpiry b s = _
    rw [execKeysWindowExpiry, visit]
  refine ⟨fun visit => unanswered visit, fun visit few => ?_, fun visit twice => ?_, fun none => ?_⟩
  · rw [unanswered visit, goOn_eq, ← failVisit_suspects few]
    rfl
  · rw [unanswered visit, goOn_eq, ← failVisit_loses twice]
    rfl
  · change execKeysWindowExpiry b s = _
    unfold execKeysWindowExpiry
    split
    next visit => exact absurd visit (none _ _)
    · rfl

theorem State.visitAnswered_eq (s : State) (l : Loc) (e : Option KeyEvent) : s.visitAnswered l e =
    (((s.goodAnswer l.bus).setLoc l { s.loc l with
      miss := 0, state := if (s.loc l).state = .suspect then .present else (s.loc l).state }).takeKeys l e).nextVisit l.bus l.idx := by
  have same : (s.goodAnswer l.bus).loc l = s.loc l := by simp
  simp only [State.visitAnswered, State.modLoc, same, Location.answered]

/-- Settles O33. -/
theorem keysAnswerEndsTheVisit : Obligations.KeysAnswerEndsTheVisit := by
  intro s b i second frame visit l u
  have read {f : Option KeyEvent} (reads : (goodBytes frame).bind (readKeys (i.val + 1)) = some f) :
      exec (.keysAnswer b frame) s = .next (goOn (u.takeKeys l f) b i) := by
    change execKeysAnswer b frame s = _
    rw [execKeysAnswer, visit]
    simp only [reads, State.visitAnswered_eq]
    rfl
  refine ⟨fun flags quiet k t c a bytes => ?_, fun flags pressed k t c a bytes => ?_, fun other => ?_⟩
  · rw [read (f := none)]
    · rfl
    · rw [bytes, goodBytes_clean, Option.bind_some, readKeys_withCrc (by omega), eventOf, quiet]
      rfl
  · rw [read (f := .some { bit := flags.getLsbD 1, key := k.toNat, token := t.toNat, since := c.toNat, age := a.toNat })]
    · have ack : (u.loc l).ack = (s.loc l).ack := by simp [u]
      simp only [State.takeKeys, State.takeEvent, ack]
      rfl
    · rw [bytes, goodBytes_clean, Option.bind_some, readKeys_withCrc (by omega), eventOf, pressed]
      rfl
  · have unread : (goodBytes frame).bind (readKeys (i.val + 1)) = none :=
      goodBytes_bind_none fun bytes clean => readKeys_none (by omega) fun f k t c a same =>
        other f k t c a (clean.trans (congrArg cleanBytes same))
    change execKeysAnswer b frame s = _
    rw [execKeysAnswer, visit]
    simp only [unread]

/-! ### The start of a sweep (R114) -/

/-- The state in which a sweep makes its first exchange, in the statement's words. -/
def State.startSweep (s : State) (b : Fin 4) : State := (s.setBus b { s.bus b with
  counter := if (s.bus b).counter = 255 then 0 else (s.bus b).counter + 1, scheduled := none, sweepStart := s.now,
  sweepVisited := false, sweepGood := false }).governSweep b

section Start

variable {s : State} {b : Fin 4}

theorem beginSweep_startSweep (range : (s.bus b).counter ≤ 255) :
    s.beginSweep b = (s.startSweep b).visitPart b 0 fun u => u.closeSweep b := by
  have counter : ((s.bus b).counter + 1) % 256 = if (s.bus b).counter = 255 then 0 else (s.bus b).counter + 1 := by split <;> omega
  rw [State.beginSweep_eq, State.startedBus, counter]
  rfl

theorem loc_startSweep (l : Loc) : (s.startSweep b).loc l = s.loc l := by simp [State.startSweep]

theorem bus_startSweep : (s.startSweep b).bus b = { s.bus b with
    counter := if (s.bus b).counter = 255 then 0 else (s.bus b).counter + 1, scheduled := none, sweepStart := s.now,
    sweepVisited := false, sweepGood := false } := by simp [State.startSweep]

theorem now_startSweep : (s.startSweep b).now = s.now := by simp [State.startSweep]

theorem countPresence_startSweep (p : Presence) : (s.startSweep b).countPresence b p = s.countPresence b p := by
  simp [State.startSweep, State.countPresence]

/-- A sweep that ends at once has lasted no time and found no one silent (R114, R121). -/
theorem closeSweep_startSweep (idle : (s.bus b).exchange = .none) : (s.startSweep b).closeSweep b =
    ((s.startSweep b).setBus b { (s.startSweep b).bus b with
      scheduled := some (s.now + (s.bus b).period), lastDuration := 0, ambiguous := decide (2 ≤ s.countPresence b .lost) }).queueNotices
      (if decide (2 ≤ s.countPresence b .lost) && !(s.bus b).ambiguous then [Notice.bus b .refillAmbiguous none] else []) := by
  rw [State.closeSweep_eq, State.sweepNotices, countPresence_startSweep, bus_startSweep, now_startSweep]
  simp only [Nat.sub_self, Nat.min_zero, Bool.false_and, Bool.or_false, idle]
  rfl

end Start

/-- With nothing to visit or to poll, a sweep goes on to its refill part (R115). -/
theorem visitPart_refills {s : State} {b : Fin 4} {k : Nat} (close : State → State)
    (none : noneFrom s b k fun x => x.state = .present ∨ x.state = .suspect)
    (unpolled : (s.bus b).counter % 8 = 0 → noneFrom s b 0 fun x => x.state = .lost) :
    s.visitPart b k close = s.refillPart b close := by
  rw [visitPart_polls close none]
  by_cases eighth : (s.bus b).counter % 8 = 0
  · exact pollPart_ends close eighth (unpolled eighth)
  · exact pollPart_skips close eighth

/-- Settles O32. -/
theorem sweepStartsWhenDue : Obligations.SweepStartsWhenDue := by
  intro s b started range
  have same : started = s.startSweep b := rfl
  clear_value started
  subst same
  refine ⟨fun due i service idle scheduled come first => ?_, fun due service idle scheduled come none => ?_,
    fun due service idle scheduled come none => ?_, exec_sweepStart_early⟩
  · have first : firstFrom (s.startSweep b) b 0 (fun x => x.state = .present ∨ x.state = .suspect) i := by
      simpa only [firstFrom, loc_startSweep] using first
    rw [exec_sweepStart_due service idle scheduled come, beginSweep_startSweep range, visitPart_visits _ first]
  · have unvisited : noneFrom (s.startSweep b) b 0 fun x => x.state = .present ∨ x.state = .suspect := by
      simp only [noneFrom, loc_startSweep]
      exact fun j from_0 visited => none j from_0 (visited.imp_right .inl)
    have unpolled : noneFrom (s.startSweep b) b 0 fun x => x.state = .lost := by
      simp only [noneFrom, loc_startSweep]
      exact fun j from_0 lost => none j from_0 (.inr (.inr lost))
    have zero : s.countPresence b .lost = 0 := by
      rw [State.countPresence, State.countP_locs, List.countP_eq_zero]
      exact fun j _ lost => none j (Nat.zero_le _) (.inr (.inr (beq_iff_eq.1 lost)))
    rw [exec_sweepStart_due service idle scheduled come, beginSweep_startSweep range, visitPart_refills _ unvisited fun _ => unpolled,
      refillPart_closes _ (by rw [countPresence_startSweep, zero]; omega), closeSweep_startSweep idle, zero]
    rfl
  · have unvisited : noneFrom (s.startSweep b) b 0 fun x => x.state = .present ∨ x.state = .suspect := by
      simpa only [noneFrom, loc_startSweep] using none
    rw [exec_sweepStart_due service idle scheduled come, beginSweep_startSweep range]
    refine ⟨fun i eighth first => ?_, fun i other one => ?_, fun other several => ?_⟩
    · have first : firstFrom (s.startSweep b) b 0 (fun x => x.state = .lost) i := by
        simpa only [firstFrom, loc_startSweep] using first
      rw [visitPart_polls _ unvisited, pollPart_asks _ eighth first]
    · rw [visitPart_refills _ unvisited fun eighth => absurd eighth other,
        refillPart_probes _ fun j => by rw [loc_startSweep]; exact one j]
    · have several : 2 ≤ s.countPresence b .lost := by rwa [s.countPresence_eq]
      rw [visitPart_refills _ unvisited fun eighth => absurd eighth other,
        refillPart_closes _ (by rw [countPresence_startSweep]; omega), closeSweep_startSweep idle, decide_eq_true several]
      cases (s.bus b).ambiguous <;> rfl

end Sys2Proof.Machine
end

section
/-! The IDENTIFY poll, the refill probe and the walk. Settles O35 and O37. -/

namespace Sys2Proof.Machine

open Sys2Proof.Claims

/-! ### Answers read on the pair -/

theorem bind_clean {α : Type} (bytes : List Byte) (f : List Byte → Option α) : (goodBytes (cleanBytes bytes)).bind f = f bytes := by
  rw [goodBytes_clean, Option.bind_some]

theorem bind_identity_clean {a : Nat} (ha : a < 256) (kind code s0 s1 s2 s3 : Byte) :
    (goodBytes (cleanBytes (withCrc [kind, BitVec.ofNat 8 a, code, s0, s1, s2, s3]))).bind (readIdentity kind a) =
      some { code := code.toNat, serial := s3 ++ s2 ++ s1 ++ s0 } := by
  rw [bind_clean, readIdentity_withCrc ha]

theorem bind_identity_none {a : Nat} (ha : a < 256) {kind : Byte} {frame : List PairByte}
    (other : ∀ c s0 s1 s2 s3, frame ≠ cleanBytes (withCrc [kind, BitVec.ofNat 8 a, c, s0, s1, s2, s3])) :
    (goodBytes frame).bind (readIdentity kind a) = none :=
  goodBytes_bind_none fun _ clean => readIdentity_none ha fun c s0 s1 s2 s3 same =>
    other c s0 s1 s2 s3 (clean.trans (congrArg cleanBytes same))

theorem any_here_clean {a : Nat} (ha : a < 256) :
    (goodBytes (cleanBytes (withCrc [0xA2#8, BitVec.ofNat 8 a]))).any (readHere a) = true := by
  rw [goodBytes_clean, Option.any_some]
  exact (readHere_iff ha _).2 rfl

theorem any_here_none {a : Nat} (ha : a < 256) {frame : List PairByte} (other : frame ≠ cleanBytes (withCrc [0xA2#8, BitVec.ofNat 8 a])) :
    (goodBytes frame).any (readHere a) = false := by
  cases clean : goodBytes frame with
  | none => rfl
  | some bytes =>
    rw [Option.any_some, Bool.eq_false_iff]
    exact fun reads => other ((goodBytes_eq_some.1 clean).trans (congrArg cleanBytes ((readHere_iff ha bytes).1 reads)))

/-! ### The IDENTIFY poll and the refill probe (R119, R120, R122) -/

section Exchange

variable {s : State} {b : Fin 4} {i : Fin 62}

theorem exec_identifyReply_polled (poll : (s.bus b).exchange = .poll i) (code s0 s1 s2 s3 : Byte) :
    exec (.identifyReply b (cleanBytes (withCrc [0x92#8, BitVec.ofNat 8 (i.val + 1), code, s0, s1, s2, s3]))) s =
      .next (((s.goodAnswer b).classifyAt { bus := b, idx := i } { code := code.toNat, serial := s3 ++ s2 ++ s1 ++ s0 } false).nextPoll b i) := by
  have reads : (goodBytes (cleanBytes (withCrc [0x92#8, BitVec.ofNat 8 (i.val + 1), code, s0, s1, s2, s3]))).bind
      (readIdentifyReply (i.val + 1)) = _ := bind_identity_clean (by omega) 0x92#8 code s0 s1 s2 s3
  change execIdentifyReply b _ s = _
  rw [execIdentifyReply, poll]
  simp only [reads]

theorem exec_takenAnswer_reads {id : Identity} {frame : List PairByte} (reads : (goodBytes frame).bind (readTaken (i.val + 1)) = some id)
    {next : State} (follows : (∃ k, (s.bus b).exchange = .walkTake i k ∧ next = s.walkTaken b i id) ∨
      ∃ k, (s.bus b).exchange = .probeTake i k ∧ next = s.probeTaken b i id) : exec (.takenAnswer b frame) s = .next next := by
  change execTakenAnswer b _ s = _
  rcases follows with ⟨k, exchange, rfl⟩ | ⟨k, exchange, rfl⟩ <;>
  · rw [execTakenAnswer, exchange]
    simp only [reads]

theorem exec_takenAnswer_other {frame : List PairByte}
    (exchange : (∃ k, (s.bus b).exchange = .walkTake i k) ∨ ∃ k, (s.bus b).exchange = .probeTake i k)
    (other : ∀ c s0 s1 s2 s3, frame ≠ cleanBytes (withCrc [0xA1#8, BitVec.ofNat 8 (i.val + 1), c, s0, s1, s2, s3])) :
    exec (.takenAnswer b frame) s = .next s := by
  have unread : (goodBytes frame).bind (readTaken (i.val + 1)) = none := bind_identity_none (by omega) other
  change execTakenAnswer b _ s = _
  rcases exchange with ⟨k, exchange⟩ | ⟨k, exchange⟩ <;>
  · rw [execTakenAnswer, exchange]
    simp only [unread]

theorem exec_takenAnswer_clean (code s0 s1 s2 s3 : Byte) {next : State}
    (follows : (∃ k, (s.bus b).exchange = .walkTake i k ∧ next = s.walkTaken b i { code := code.toNat, serial := s3 ++ s2 ++ s1 ++ s0 }) ∨
      ∃ k, (s.bus b).exchange = .probeTake i k ∧ next = s.probeTaken b i { code := code.toNat, serial := s3 ++ s2 ++ s1 ++ s0 }) :
    exec (.takenAnswer b (cleanBytes (withCrc [0xA1#8, BitVec.ofNat 8 (i.val + 1), code, s0, s1, s2, s3]))) s = .next next :=
  exec_takenAnswer_reads (bind_identity_clean (a := i.val + 1) (by omega) 0xA1#8 code s0 s1 s2 s3) follows

end Exchange

/-- Settles O35. -/
theorem pollAndProbeFindReplacements : Obligations.PollAndProbeFindReplacements := by
  constructor
  · intro s b i poll after
    refine ⟨exec_identifyReply_polled poll, fun frame other => ?_, ?_⟩
    · have unread : (goodBytes frame).bind (readIdentifyReply (i.val + 1)) = none := bind_identity_none (by omega) other
      change execIdentifyReply b _ s = _
      rw [execIdentifyReply, poll]
      simp only [unread]
    · change execIdentifyWindowExpiry b s = _
      rw [execIdentifyWindowExpiry, poll]
      rfl
  · intro s b i l finish take
    refine ⟨fun look => ⟨?_, fun frame other => ?_, ?_⟩, fun k taking => ⟨fun code s0 s1 s2 s3 => ?_, fun frame other => ?_, ?_⟩⟩
    · have same : (s.goodAnswer b).loc l = s.loc l := by simp
      change execHereAnswer b _ s = _
      rw [execHereAnswer, look]
      simp only [any_here_clean (show i.val + 1 < 256 by omega), if_true, State.probeHere, State.modLoc]
      rw [show (s.goodAnswer b).loc { bus := b, idx := i } = _ from same]
      rfl
    · change execHereAnswer b _ s = _
      rw [execHereAnswer, look]
      simp only [any_here_none (show i.val + 1 < 256 by omega) other, Bool.false_eq_true, if_false]
    · change execHereWindowExpiry b s = _
      rw [execHereWindowExpiry, look]
      rfl
    · exact exec_takenAnswer_clean code s0 s1 s2 s3 (.inr ⟨k, taking, rfl⟩)
    · exact exec_takenAnswer_other (.inr ⟨k, taking⟩) other
    · change execTakenWindowExpiry b s = _
      rw [execTakenWindowExpiry, taking]
      rfl

/-! ### The walk (R92, R93, R97, R98) -/

/-- The completion of a walk in the statement's words. -/
theorem completeWalk_eq (s : State) (b : Fin 4) (k : Nat) : s.completeWalk b k = (completed s b k).beginSweep b := by
  have marks : (locsFrom b k).foldl State.markAbsent s = (List.finRange 62).foldl (fun u i =>
      let l : Loc := { bus := b, idx := i }
      if i.val < k ∨ (u.loc l).state = .absent then u
      else (u.setLoc l { u.loc l with state := .absent, miss := 0, rot := { (u.loc l).rot with direct := none } }).queueNotice
        (.location l .absent .absent (u.loc l).kind (u.loc l).serial)) s := by
    rw [locsFrom, List.foldl_map, List.foldl_filter]
    refine congrArg (fun f => List.foldl f s (List.finRange 62)) ?_
    funext u i
    by_cases below : i.val < k
    · simp [below, Nat.not_le.2 below]
    · simp only [below, false_or, Nat.le_of_not_lt below, decide_true, if_true]
      rfl
  rw [State.completeWalk, marks]
  rfl

/-- Settles O37. -/
theorem walkHandsOutAddressesAndCompletes : Obligations.WalkHandsOutAddressesAndCompletes := by
  refine ⟨fun s b => ⟨fun due low => ?_, fun i k taking => ⟨fun code s0 s1 s2 s3 => ⟨_, rfl,
      exec_takenAnswer_clean code s0 s1 s2 s3 (.inl ⟨k, taking, ?_⟩)⟩, fun frame other => exec_takenAnswer_other (.inl ⟨k, taking⟩) other,
      fun first => ?_⟩⟩,
    fun s b => ⟨fun i taking => ?_, fun look => ⟨?_, ?_, fun frame other => ?_⟩⟩⟩
  · change execEnrLowEnd b s = _
    simp only [execEnrLowEnd, low, Option.any_some, decide_eq_true_eq, State.walkTakeAt, State.sendFrames, State.modBus, State.bus_setBus,
      if_true, State.setBus_setBus]
    rfl
  · unfold State.walkTaken
    simp only []
    split <;> rfl
  · subst first
    change execTakenWindowExpiry b s = _
    rw [execTakenWindowExpiry, taking]
    rfl
  · change execTakenWindowExpiry b s = _
    rw [execTakenWindowExpiry, taking]
    simp only [if_true, completeWalk_eq]
  · change execHereWindowExpiry b s = _
    rw [execHereWindowExpiry, look]
    simp only [completeWalk_eq]
  · change execHereAnswer b _ s = _
    rw [execHereAnswer, look]
    have reads : (goodBytes (cleanBytes (withCrc [0xA2#8, 63#8]))).any (readHere 63) = true := any_here_clean (a := 63) (by omega)
    simp only [reads, if_true, completeWalk_eq]
    rfl
  · change execHereAnswer b _ s = _
    rw [execHereAnswer, look]
    simp only [any_here_none (show 63 < 256 by omega) other, Bool.false_eq_true, if_false]

end Sys2Proof.Machine
end

section
/-! The processing of a completed sample, and how a notice joins the report queue. Settles O40 and O48. -/

namespace Sys2Proof.Machine

open Sys2Proof.Claims

/-! ### A notice, and a write beside the queue -/

theorem State.setFeed_queueNotice (s : State) (b : Fin 4) (x : Feed) (n : Notice) (c : Option Nat) :
    (s.queueNotice n c).setFeed b x = (s.setFeed b x).queueNotice n c := by
  unfold State.queueNotice
  change State.setFeed (if s.notices.classes.get n.cls = 0 then s else _) b x = if s.notices.classes.get n.cls = 0 then _ else _
  split <;> rfl

theorem State.setBus_queueNotice (s : State) (b : Fin 4) (x : Bus) (n : Notice) (c : Option Nat) :
    (s.queueNotice n c).setBus b x = (s.setBus b x).queueNotice n c := by
  unfold State.queueNotice
  change State.setBus (if s.notices.classes.get n.cls = 0 then s else _) b x = if s.notices.classes.get n.cls = 0 then _ else _
  split <;> rfl

/-! ### A completed sample (R132 to R139) -/

theorem powered_iff (state : BusState) : state.powered = true ↔ state = .enrolling ∨ state = .service := by
  cases state <;> simp [BusState.powered]

theorem awaitsSupply_iff (state : BusState) : state.awaitsSupply = true ↔ state = .unpowered ∨ state = .brownout := by
  cases state <;> simp [BusState.awaitsSupply]

theorem escalatedAfter_eq (mode : SamplingMode) (level : Nat) (old : Bool) : escalatedAfter mode level old =
    if level = 0 then old || decide (mode = .periodic) else old && decide (level < 2) := by
  unfold escalatedAfter
  split
  · rw [beq_eq_decide]
  · by_cases low : level < 2
    · rw [if_neg (Nat.not_le.2 low), decide_eq_true low, Bool.and_true]
    · rw [if_pos (Nat.le_of_not_lt low), decide_eq_false low, Bool.and_false]

theorem nextSample_eq (state : BusState) (f : Feed) (start now : Nat) :
    nextSample state f start now = sampleAfterCompletion state f.mode f.escalated start now := by
  unfold nextSample sampleAfterCompletion
  cases state <;> cases f.mode <;> cases f.escalated <;> rfl

/-- The feed monitor after steps 2 to 4 of R132, in the statement's words. -/
def Feed.sampled (f : Feed) (state : BusState) (level start : Nat) : Feed :=
  { f with busy := false, lastStart := some start, runStart := none, level := level,
           zeroRun := if level = 0 then (if state = .enrolling ∨ state = .service then min 4 (f.zeroRun + 1) else f.zeroRun) else 0,
           escalated := if level = 0 then f.escalated || decide (f.mode = .periodic) else f.escalated && decide (level < 2) }

/-- The state after steps 1 to 4 of R132, in the statement's words. -/
def State.told (s : State) (b : Fin 4) (level start : Nat) : State :=
  if bandOf level ≠ bandOf (s.feed b).level
    then (s.setFeed b ((s.feed b).sampled (s.bus b).state level start)).queueNotice (.supply b .band level none)
    else s.setFeed b ((s.feed b).sampled (s.bus b).state level start)

section Sample

variable {s : State} {b : Fin 4} {level start : Nat}

theorem recordSample_told (running : (s.feed b).runStart = some start) : s.recordSample b level = s.told b level start := by
  have sampled : ({ s.feed b with
      busy := false, lastStart := (s.feed b).runStart, runStart := none, level := level,
      zeroRun := zeroRunAfter (s.bus b).state level (s.feed b).zeroRun,
      escalated := escalatedAfter (s.feed b).mode level (s.feed b).escalated } : Feed) = (s.feed b).sampled (s.bus b).state level start := by
    simp only [Feed.sampled, running, escalatedAfter_eq, zeroRunAfter, powered_iff]
  unfold State.recordSample State.told
  simp only [State.modFeed, sampled]

theorem told_frame : (s.told b level start).bus b = s.bus b ∧ (s.told b level start).feed b = (s.feed b).sampled (s.bus b).state level start ∧
    (s.told b level start).governor b = s.governor b ∧ (s.told b level start).now = s.now ∧ (s.told b level start).locs = s.locs := by
  unfold State.told
  split <;> simp

/-- The last step of R132: the next sample. -/
theorem completeSample_eq (running : (s.feed b).runStart = some start) :
    s.completeSample b start level =
      let u := (s.told b level start).supplyCheck b level
      u.setFeed b { u.feed b with next := sampleAfterCompletion (u.bus b).state (u.feed b).mode (u.feed b).escalated start u.now } := by
  rw [State.completeSample, recordSample_told running]
  simp only [State.modFeed, nextSample_eq]

/-- The check for brownout and recovery finds nothing to do (R132 step 5). -/
theorem supplyCheck_steady {u : State} (powered : ¬ ((u.bus b).state.powered = true ∧ level = 0 ∧ (u.feed b).zeroRun = 4))
    (waiting : ¬ ((u.bus b).state.awaitsSupply = true ∧ 2 ≤ level)) : u.supplyCheck b level = u := by
  unfold State.supplyCheck
  split
  next on => exact if_neg fun low => powered ⟨on, low⟩
  next =>
    split
    next wait => exact if_neg fun high => waiting ⟨wait, high⟩
    · rfl

end Sample

/-! #### Brownout and recovery (R137 to R139) -/

theorem lostCount_eq (s : State) (b : Fin 4) :
    s.lostCount b = presenceCount s b .present + presenceCount s b .suspect + presenceCount s b .mismatch := by
  have split (l : List Location) : l.countP Location.losesFeed = (l.countP fun x => x.state == .present)
      + (l.countP fun x => x.state == .suspect) + l.countP fun x => x.state == .mismatch := by
    induction l with
    | nil => rfl
    | cons x l ih =>
      have one : (if x.losesFeed then 1 else 0) = (if x.state == .present then 1 else 0) + (if x.state == .suspect then 1 else 0)
          + if x.state == .mismatch then 1 else 0 := by cases h : x.state <;> simp [Location.losesFeed, h]
      rw [List.countP_cons, List.countP_cons, List.countP_cons, List.countP_cons, ih, one]
      omega
  rw [State.lostCount, split, ← s.countPresence_eq, ← s.countPresence_eq, ← s.countPresence_eq]
  rfl

/-- The processing of a sample that declares a brownout (R137, R138). -/
theorem brownout_eq (u : State) (b : Fin 4) (start : Nat) :
    let v := u.declareBrownout b
    v.setFeed b { v.feed b with next := sampleAfterCompletion (v.bus b).state (v.feed b).mode (v.feed b).escalated start v.now } =
      ((((({ u with locs := (u.mapBusLocs b Location.afterBrownout).locs } : State).setFeed b { u.feed b with
          switchClosed := false, brownout := true, zeroRun := 0, next := some u.now }).setBus b { u.bus b with
          state := .brownout, exchange := .none, scheduled := none, waitEnd := none, enrLowEnd := none }).setGovernor b
          { u.governor b with phaseExpiry := none }).queueNotice (.supply b .brownout 0 (some (u.lostCount b)))) := by
  have opened : u.declareBrownout b = ((((({ u with locs := (u.mapBusLocs b Location.afterBrownout).locs } : State).setFeed b
      { u.feed b with switchClosed := false, brownout := true, zeroRun := 0 }).setBus b { u.bus b with
        state := .brownout, exchange := .none, scheduled := none, waitEnd := none, enrLowEnd := none }).setGovernor b
        { u.governor b with phaseExpiry := none }).queueNotice (.supply b .brownout 0 (some (u.lostCount b)))) := by
    simp only [State.declareBrownout, State.modFeed, State.modBus, State.modGovernor, State.setFeed_frame, State.setBus_frame]
    rfl
  intro v
  have is_v : v = _ := opened
  clear_value v
  subst is_v
  simp only [State.queueNotice_frame, State.setGovernor_frame, State.setBus_frame, State.feed_setFeed, State.bus_setBus, if_true,
    State.setFeed_queueNotice, ← State.setFeed_setBus, ← State.setFeed_setGovernor, State.setFeed_setFeed]
  rfl

/-- The processing of a sample with which a bus recovers or starts up (R109, R139). -/
theorem recover_eq (u : State) (b : Fin 4) (level start : Nat) :
    let v := u.recover b level
    let closed : State := ((u.setFeed b { u.feed b with
      switchClosed := true, brownout := (u.feed b).brownout && decide ((u.bus b).state ≠ .brownout),
      next := sampleAfterCompletion .enrolling (u.feed b).mode (u.feed b).escalated start u.now }).setBus b { u.bus b with
      state := .enrolling, waitEnd := some (u.now + 200) })
    v.setFeed b { v.feed b with next := sampleAfterCompletion (v.bus b).state (v.feed b).mode (v.feed b).escalated start v.now } =
      if (u.bus b).state = .brownout then closed.queueNotice (.supply b .recovered level none) else closed := by
  intro v closed
  by_cases brownout : (u.bus b).state = .brownout
  · have same : (u.bus b).state == .brownout := beq_iff_eq.2 brownout
    have other : decide ((u.bus b).state ≠ .brownout) = false := decide_eq_false (not_not.2 brownout)
    simp only [v, closed, State.recover, same, if_true, if_pos brownout, State.modFeed, State.modBus, State.queueNotice_frame,
      State.setBus_frame, State.setFeed_frame, State.feed_setFeed, State.bus_setBus, State.setFeed_queueNotice,
      State.setBus_queueNotice, ← State.setFeed_setBus, State.setFeed_setFeed, other, Bool.not_true]
  · have same : ((u.bus b).state == .brownout) = false := beq_eq_false_iff_ne.2 brownout
    have other : decide ((u.bus b).state ≠ .brownout) = true := decide_eq_true brownout
    simp only [v, closed, State.recover, same, if_true, Bool.false_eq_true, if_false, if_neg brownout, State.modFeed, State.modBus,
      State.setBus_frame, State.setFeed_frame, State.feed_setFeed, State.bus_setBus, ← State.setFeed_setBus, State.setFeed_setFeed, other,
      Bool.not_false]

/-- Settles O40. -/
theorem sampleIsProcessedInOrder : Obligations.SampleIsProcessedInOrder := by
  intro s b supply start running level c f powered waiting run escalated sampled told
  have is_told : s.told b level start = told := rfl
  have is_run : (s.feed b).sampled (s.bus b).state level start = sampled := rfl
  obtain ⟨same_bus, same_feed, same_governor, same_now, same_locs⟩ := told_frame (s := s) (b := b) (level := level) (start := start)
  rw [is_told] at same_bus same_feed same_governor same_now same_locs
  rw [is_run] at same_feed
  have ran (late : start + 8 ≤ s.now) : exec (.sampleComplete b supply) s = .next (s.completeSample b start level) := by
    change execSampleComplete b supply s = _
    rw [execSampleComplete, running]
    simp only [if_pos late]
    rfl
  refine ⟨fun early => ?_, fun late steady_on steady_off => ?_, fun late down => ?_, fun late wait up => ?_⟩
  · change execSampleComplete b supply s = _
    rw [execSampleComplete, running]
    simp only [if_neg (Nat.not_le.2 early)]
  · have steady : told.supplyCheck b level = told := by
      refine supplyCheck_steady (fun ⟨on, zero, four⟩ => steady_on ⟨?_, zero, ?_⟩) fun ⟨wait, high⟩ => steady_off ⟨?_, high⟩
      · rwa [same_bus, powered_iff] at on
      · rwa [same_feed] at four
      · rwa [same_bus, awaitsSupply_iff] at wait
    rw [ran late, completeSample_eq running, is_told, steady]
    simp only [same_bus, same_feed, same_now]
    rfl
  · obtain ⟨on, zero, four⟩ := down
    have declared : told.supplyCheck b level = told.declareBrownout b := by
      unfold State.supplyCheck
      rw [same_bus, same_feed, if_pos ((powered_iff _).2 on)]
      exact if_pos ⟨zero, four⟩
    have counted : told.lostCount b = s.lostCount b := by rw [State.lostCount, State.lostCount, same_locs]
    have processed := brownout_eq told b start
    rw [counted, same_bus, same_feed, same_governor] at processed
    have completed := completeSample_eq (level := level) running
    rw [is_told, declared] at completed
    replace completed := completed.trans processed
    have lost : (s.completeSample b start level).locs = (told.mapBusLocs b Location.afterBrownout).locs := by
      rw [completed]
      simp only [State.queueNotice_frame, State.setGovernor_frame, State.setBus_frame, State.setFeed_frame]
    refine ⟨_, s.lostCount b, ran late, lostCount_eq s b, by rw [lost, ← same_now]; exact completed, fun l => ?_⟩
    have at_loc : (s.completeSample b start level).loc l = (told.mapBusLocs b Location.afterBrownout).loc l :=
      congrArg (fun locs : Vector (Vector Location 62) 4 => locs[l.bus.val][l.idx.val]) lost
    have same_loc : told.loc l = s.loc l := congrArg (fun locs : Vector (Vector Location 62) 4 => locs[l.bus.val][l.idx.val]) same_locs
    have loses (x : Location) : x.afterBrownout =
        if x.state = .present ∨ x.state = .suspect ∨ x.state = .mismatch then { x with state := .lost, miss := 3 } else x := by
      simp only [Location.afterBrownout, Location.losesFeed, Bool.or_eq_true, beq_iff_eq, or_assoc]
    rw [at_loc, State.loc_mapBusLocs, same_loc, loses, ← ite_and]
  · have recovers : told.supplyCheck b level = told.recover b level := by
      unfold State.supplyCheck
      have off : ¬ (s.bus b).state.powered = true := by
        rw [powered_iff]
        rcases wait with state | state <;> simp [show (s.bus b).state = _ from state]
      rw [same_bus, if_neg off, if_pos ((awaitsSupply_iff _).2 wait), if_pos up]
    have processed := recover_eq told b level start
    rw [same_bus, same_feed, same_now] at processed
    rw [ran late, completeSample_eq running, is_told, recovers]
    exact congrArg Host.Outcome.next processed

/-! ### The report queue (R151, R152, R155, R156) -/

/-- In a queue in order of priority, the place of a joining entry is between its own or higher priorities and the lower ones. -/
theorem insertEntry_eq {q : List Entry} (order : q.Pairwise Entry.before) (e : Entry) :
    insertEntry e q = q.filter (fun x => decide (e.priority ≤ x.priority)) ++ e :: q.filter (fun x => decide (x.priority < e.priority)) := by
  unfold insertEntry
  induction q with
  | nil => rfl
  | cons x q ih =>
    obtain ⟨ahead, order⟩ := List.pairwise_cons.1 order
    by_cases high : e.priority ≤ x.priority
    · have low : ¬ x.priority < e.priority := Nat.not_lt.2 high
      simp only [List.takeWhile_cons, List.dropWhile_cons, List.filter_cons, high, low, decide_true, decide_false, if_true,
        Bool.false_eq_true, if_false, List.cons_append, ih order]
    · have lower (y : Entry) (hy : y ∈ q) : y.priority < e.priority := by
        have := ahead y hy
        unfold Entry.before at this
        omega
      have none_high : q.filter (fun y => decide (e.priority ≤ y.priority)) = [] :=
        List.filter_eq_nil_iff.2 fun y hy => by simpa using lower y hy
      have all_low : q.filter (fun y => decide (y.priority < e.priority)) = q :=
        List.filter_eq_self.2 fun y hy => by simpa using lower y hy
      simp only [List.takeWhile_cons, List.dropWhile_cons, List.filter_cons, high, Nat.lt_of_not_le high, decide_true, decide_false, if_true,
        Bool.false_eq_true, if_false, List.nil_append, none_high, all_low]

section Queue

variable {q : NoticeQueue} (h : q.InOrder)
include h

theorem entry_of_age {x y : Entry} (hx : x ∈ q.entries) (hy : y ∈ q.entries) (same : x.age = y.age) : x = y :=
  List.inj_on_of_nodup_map h.ages hx hy same

/-- Taking out the entry of an age takes out that entry alone. -/
theorem filter_age {v : Entry} (hv : v ∈ q.entries) :
    (q.entries.filter fun x => x.age != v.age) = q.entries.filter fun x => decide (x ≠ v) := by
  refine List.filter_congr fun x hx => ?_
  rw [Bool.eq_iff_iff, bne_iff_ne, decide_eq_true_eq, not_iff_not]
  exact ⟨entry_of_age h hx hv, congrArg Entry.age⟩

/-- The youngest droppable entry of the lowest droppable priority is the one that a drop takes (R155). -/
theorem victim_eq {v : Entry} (mem : v ∈ q.entries) (free : q.transmitting ≠ some v.age)
    (least : ∀ x, x ∈ q.entries ∧ q.transmitting ≠ some x.age → v.priority < x.priority ∨ (v.priority = x.priority ∧ x.age ≤ v.age)) :
    q.victim = some v := by
  have droppable : v ∈ q.droppable := List.mem_filter.2 ⟨mem, by simpa using Ne.symm free⟩
  cases chosen : q.victim with
  | none =>
    unfold NoticeQueue.victim at chosen
    split at chosen
    next empty => rw [empty] at droppable; cases droppable
    next => cases chosen
  | some w =>
    have mem_w := NoticeQueue.victim_mem chosen
    have below := NoticeQueue.victim_least chosen v droppable
    have above := least w mem_w
    exact congrArg some (entry_of_age h mem_w.1 mem (by omega))

end Queue

/-- Settles O48. -/
theorem noticeJoinsOrTheLeastIsDropped : Obligations.NoticeJoinsOrTheLeastIsDropped := by
  intro s n closure order p e joins droppable
  have offered (positive : 0 < p) : s.queueNotice n closure =
      { s with notices := (s.notices.offer e).1, link := { s.link with shown := s.link.shown && !(s.notices.offer e).2 } } := by
    rw [State.queueNotice_eq, if_neg (show ¬ s.notices.classes.get n.cls = 0 from Nat.ne_of_gt positive)]
  refine ⟨fun zero => by rw [State.queueNotice_eq, if_pos zero], fun positive room => ?_, fun positive full =>
    ⟨fun v free least lower => ?_, fun high => ?_⟩⟩
  · rw [offered positive, NoticeQueue.offer, if_pos room]
    simp only [NoticeQueue.join, insertEntry_eq order.order, Bool.not_false, Bool.and_true]
    rfl
  · have victim := victim_eq order free.1 free.2 least
    have lower : v.priority < e.priority := lower
    rw [offered positive, NoticeQueue.offer, if_neg (by omega), victim]
    simp only [if_pos lower, NoticeQueue.join, filter_age order free.1, insertEntry_eq (order.order.filter _), Bool.not_true,
      Bool.and_false]
    rfl
  · rw [offered positive]
    obtain ⟨room, -⟩ | ⟨v, -, victim, lower, -⟩ | ⟨-, -, dropped⟩ := s.notices.offer_cases e
    · omega
    · exact absurd (high v (NoticeQueue.victim_mem victim)) (Nat.not_le.2 lower)
    · rw [dropped]
      simp only [Bool.not_true, Bool.and_false]

end Sys2Proof.Machine
end

section
/-! What a press comes to. Settles O43, O44 and O45. -/

namespace Sys2Proof.Machine

open Sys2Proof.Claims

/-! ### Presses without a target (R67 to R71) -/

theorem Key.ofCode_code (k : Key) : Key.ofCode k.code = some k := by cases k <;> rfl

theorem Key.ofCode_none {code : Nat} (outside : code = 0 ∨ 3 < code) : Key.ofCode code = none := by
  unfold Key.ofCode
  split
  all_goals first | rfl | omega

/-- A list of slots without repeats that holds the slots with a property, and one slot alone, is that slot's. -/
theorem filter_finRange_eq_singleton {n : Nat} {p : Fin n → Bool} {i : Fin n} :
    (List.finRange n).filter p = [i] ↔ ∀ j, p j = true ↔ j = i := by
  constructor
  · intro alone j
    have mem : j ∈ (List.finRange n).filter p ↔ j = i := by rw [alone, List.mem_singleton]
    rw [← mem, List.mem_filter]
    exact ⟨fun holds => ⟨List.mem_finRange j, holds⟩, fun mem => mem.2⟩
  · intro only
    have tests : p = fun j => j == i := funext fun j => by rw [Bool.eq_iff_iff, only, beq_iff_eq]
    rw [tests, List.filter_beq, List.count_eq_one_of_mem (List.nodup_finRange n) (List.mem_finRange i)]
    rfl

section Stray

variable {s : State} {l : Loc}

theorem strayFor_some {i : Fin 8} (only : ∀ j, (s.session j).state = .active ∧ (s.session j).covers l = true ↔ j = i) :
    s.strayFor l = some i := by
  have alone : (List.finRange 8).filter (fun i => (s.session i).state == .active && (s.session i).covers l) = [i] :=
    filter_finRange_eq_singleton.2 fun j => by rw [Bool.and_eq_true, beq_iff_eq, only]
  rw [State.strayFor, alone]

theorem strayFor_none (several : ∀ i, ¬ ∀ j, (s.session j).state = .active ∧ (s.session j).covers l = true ↔ j = i) :
    s.strayFor l = none := by
  unfold State.strayFor
  split
  next i alone =>
    refine absurd (fun j => ?_) (several i)
    rw [← filter_finRange_eq_singleton.1 alone j, Bool.and_eq_true, beq_iff_eq]
  · rfl

end Stray

section Resolve

variable {s : State} {l : Loc} {e : KeyEvent} {k : Key} (code : e.key = k.code)
include code

theorem resolvePress_absorbed (mode : s.ms0 = false ∨ s.ms1 = false) : s.resolvePress l e = s := by
  rw [State.resolvePress, code, Key.ofCode_code]
  exact if_pos (by rcases mode with low | low <;> simp [low])

section Lines

variable (ms0 : s.ms0 = true) (ms1 : s.ms1 = true)
include ms0 ms1

theorem resolvePress_direct (direct : (s.loc l).rot.direct.isSome = true) :
    s.resolvePress l e = s.queueNotice (.press l k .direct none none) := by
  rw [State.resolvePress, code, Key.ofCode_code]
  simp only [ms0, ms1, Bool.not_true, Bool.or_false, Bool.false_eq_true, if_false, if_pos direct]
  rfl

variable (plain : (s.loc l).rot.direct = none)
include plain

theorem resolvePress_unreported (outside : 7 < e.token ∨ e.age = 255) : s.resolvePress l e = s.queueNotice (.press l k .stale none none) := by
  rw [State.resolvePress, code, Key.ofCode_code]
  simp only [ms0, ms1, Bool.not_true, Bool.or_false, Bool.false_eq_true, if_false, plain, Option.isSome_none]
  cases token : slotOf e.token with
  | none => rfl
  | some t =>
    have low : ¬ 7 < e.token := fun above => by rw [State.slotOf_none above] at token; cases token
    exact if_pos (outside.resolve_left low)

variable {token : Fin 8} (reported : e.token = token.val) (young : e.age ≠ 255)
include reported young

theorem resolvePress_unknown (unknown : (s.loc l).rot.map[token.val] = none) :
    s.resolvePress l e = s.queueNotice (.press l k .stale none none) := by
  rw [State.resolvePress, code, Key.ofCode_code]
  simp only [ms0, ms1, Bool.not_true, Bool.or_false, Bool.false_eq_true, if_false, plain, Option.isSome_none, reported, State.slotOf_val,
    if_neg young, unknown]
  rfl

theorem resolvePress_entry {entry : TokenEntry} (known : (s.loc l).rot.map[token.val] = some entry) :
    s.resolvePress l e = if s.now - 4 * e.age < entry.issued then s.queueNotice (.press l k .stale none none)
      else s.pressEntry l k e token entry := by
  rw [State.resolvePress, code, Key.ofCode_code]
  simp only [ms0, ms1, Bool.not_true, Bool.or_false, Bool.false_eq_true, if_false, plain, Option.isSome_none, reported, State.slotOf_val,
    if_neg young, known]
  rfl

end Lines

end Resolve

/-- Settles O43. -/
theorem pressWithoutTargetIsDeclinedOrAbsorbed : Obligations.PressWithoutTargetIsDeclinedOrAbsorbed := by
  intro s l e tell
  refine ⟨fun outside => by rw [State.resolvePress, Key.ofCode_none outside], fun k code => ⟨resolvePress_absorbed code, fun ms0 ms1 =>
    ⟨resolvePress_direct code ms0 ms1, fun plain => ⟨resolvePress_unreported code ms0 ms1 plain, fun token reported young =>
      ⟨resolvePress_unknown code ms0 ms1 plain reported young, fun entry known => ?_⟩⟩⟩⟩⟩
  rw [resolvePress_entry code ms0 ms1 plain reported young known]
  refine ⟨fun early => if_pos early, fun late => ?_⟩
  rw [if_neg (Nat.not_lt.2 late)]
  refine ⟨fun idle => ⟨fun i only => ?_, fun several => ?_⟩, fun x linger => ?_, fun blanked => ?_, fun direct => ?_⟩
  · rw [State.pressEntry, idle, strayFor_some only]
    rfl
  · rw [State.pressEntry, idle, strayFor_none several]
    rfl
  · rw [State.pressEntry, linger]
  · rw [State.pressEntry, blanked]
  · rw [State.pressEntry, direct]
    rfl

/-! ### Presses with a target (R72 to R78) -/

section Target

variable {s : State} {l : Loc} {token : Fin 8} {entry : TokenEntry} {e : KeyEvent}

/-- The task of the entry before, under the conditions of the guard (R72). -/
def State.GuardTakesBack (s : State) (l : Loc) (token : Fin 8) (entry : TokenEntry) (y : Shown) : Prop :=
  ∃ u t, (s.loc l).rot.map[(token - 1).val] = some u ∧ u.meaning = .task y ∧ u.issued < entry.issued ∧
    s.findTask y.task = some t ∧ t.state = .opened ∧ t.loc = l ∧ t.slot = y.slot

theorem guardTask_takesBack {y : Shown} (recent : 4 * e.since < s.timing.guard) (back : s.GuardTakesBack l token entry y) :
    s.guardTask l e token entry = some y := by
  obtain ⟨u, t, before, shows, older, found, opened, here, slot⟩ := back
  have is_open : t.openAt l y.slot = true := (Task.openAt_iff ..).2 ⟨opened, here, slot⟩
  have issued : issuedBefore u entry = true := by simp [issuedBefore, older]
  simp only [State.guardTask, if_pos recent, before, shows, found, issued, is_open, Bool.and_self, if_true]

theorem guardTask_none (keeps : s.timing.guard ≤ 4 * e.since ∨ ((∀ y, ¬ s.GuardTakesBack l token entry y) ∧
    ∀ u, (s.loc l).rot.map[(token - 1).val] = some u → u.issued ≠ entry.issued)) : s.guardTask l e token entry = none := by
  unfold State.guardTask
  split
  case isFalse => rfl
  next recent =>
    obtain ⟨stays, other⟩ := keeps.resolve_left (Nat.not_le.2 recent)
    split
    case h_2 => rfl
    next u before =>
      split
      case h_2 => rfl
      next y shows =>
        split
        case h_2 => rfl
        next t found =>
          refine if_neg fun takes => ?_
          obtain ⟨issued, is_open⟩ := Bool.and_eq_true_iff.1 takes
          obtain ⟨opened, here, slot⟩ := (Task.openAt_iff ..).1 is_open
          have older : u.issued < entry.issued := by simpa [issuedBefore, other u before] using issued
          exact stays y ⟨u, t, before, shows, older, found, opened, here, slot⟩

/-- A change of the offered quantity touches the one record of the id (R20). -/
theorem updTask_offered (ids : (s.tasks.map Task.id).Nodup) {t : Task} (stored : t ∈ s.tasks) (f : Task → Nat) :
    (s.updTask t.id fun x => { x with offered := f x }).setHold l t.id = adjusted s l t (f t) := by
  have same : (s.tasks.map fun x => if x.id = t.id then { x with offered := f x } else x) =
      s.tasks.map fun x => if x.id = t.id then { x with offered := f t } else x := by
    refine List.map_congr_left fun x hx => ?_
    by_cases named : x.id = t.id
    · rw [if_pos named, if_pos named, eq_of_id ids hx stored named]
    · rw [if_neg named, if_neg named]
  simp only [State.updTask, same]
  rfl

/-- A press on an OPEN task at the location (R74 to R80). -/
theorem pressOpen_eq (ids : (s.tasks.map Task.id).Nodup) {t : Task} (stored : t ∈ s.tasks) (k : Key) (press : Nat) :
    s.pressOpen l k press t =
      if ∃ a, t.amended = some a ∧ press < a then s.queueNotice (.press l k .superseded (some t.id) (some t.slot))
      else if (s.session t.slot).state = .suspended then
        if k ≠ .confirm then s
        else if 4 ≤ (s.session t.slot).pending.length then s.queueNotice (.press l k .late (some t.id) (some t.slot))
        else (s.setSession t.slot { s.session t.slot with
          pending := (s.session t.slot).pending ++ [{ task := t.id, offered := t.offered, press := press }] }).queueNotice
            (.session t.slot t.id)
      else match k with
        | .confirm => s.applyConfirm t t.offered
        | .minus => if (s.loc l).kind = some .button then s else adjusted s l t (t.offered - 1)
        | .plus => if (s.loc l).kind = some .button then s else adjusted s l t (min (t.offered + 1) t.remaining) := by
  have amended : (t.amended.any fun a => decide (press < a)) = true ↔ ∃ a, t.amended = some a ∧ press < a := by
    simp [Option.any_eq_true]
  have minus : s.applyMinus l t = adjusted s l t (t.offered - 1) := updTask_offered ids stored fun x => x.offered - 1
  have plus : s.applyPlus l t = adjusted s l t (min (t.offered + 1) t.remaining) :=
    updTask_offered ids stored fun x => min (x.offered + 1) x.remaining
  have held (full : ¬ 4 ≤ (s.session t.slot).pending.length) : (s.session t.slot).pending.length < 4 := Nat.lt_of_not_le full
  simp only [State.pressOpen, amended, minus, plus]
  split
  · rfl
  split
  · cases k with
    | confirm =>
      simp only [State.holdConfirm, ne_eq, not_true_eq_false, if_false]
      by_cases full : 4 ≤ (s.session t.slot).pending.length
      · rw [if_pos full, if_neg (Nat.not_lt.2 full)]
        rfl
      · rw [if_neg full, if_pos (Nat.lt_of_not_le full)]
    | minus => rfl
    | plus => rfl
  · cases k <;> rfl

/-- The target checks in the statement's words (R73 to R78). -/
theorem pressTarget_eq (ids : (s.tasks.map Task.id).Nodup) (k : Key) (press : Nat) (x : Shown) :
    s.pressTarget l k press x = pressed s l k press x := by
  unfold State.pressTarget pressed
  cases found : s.findTask x.task with
  | none => rfl
  | some t =>
    obtain ⟨stored, names⟩ := State.findTask_mem found
    dsimp only
    have done : t.doneAt l x.slot = true ↔ t.state = .closed ∧ t.outcome = some .done ∧ t.loc = l ∧ t.slot = x.slot := by
      simp [Task.doneAt, and_assoc]
    simp only [done, Task.openAt_iff]
    by_cases elsewhere : t.loc ≠ l ∨ t.slot ≠ x.slot
    · have not_open : ¬ (t.state = .opened ∧ t.loc = l ∧ t.slot = x.slot) := fun is_open => elsewhere.elim (· is_open.2.1) (· is_open.2.2)
      have not_done : ¬ (k = .confirm ∧ t.state = .closed ∧ t.outcome = some .done ∧ t.loc = l ∧ t.slot = x.slot) :=
        fun is_done => elsewhere.elim (· is_done.2.2.2.1) (· is_done.2.2.2.2)
      rw [if_neg not_open, if_neg not_done, if_pos elsewhere]
      rfl
    · rw [if_neg elsewhere]
      obtain ⟨here, slot⟩ := not_or.1 elsewhere
      simp only [not_not.1 here, not_not.1 slot, and_true]
      cases state : t.state with
      | waiting =>
        simp only [reduceCtorEq, false_and, and_false, if_false]
        rfl
      | opened =>
        have on_open := pressOpen_eq (l := l) ids stored k press
        rw [names, not_not.1 slot] at on_open
        exact (if_pos rfl).trans on_open
      | closed =>
        simp only [reduceCtorEq, if_false, true_and]
        rfl

end Target

/-- Settles O44. -/
theorem pressOnTaskFollowsGuardAndTargetChecks : Obligations.PressOnTaskFollowsGuardAndTargetChecks := by
  intro s l e k token entry x ids code ms0 ms1 plain reported young known shows late before takesBack
  have resolved : s.resolvePress l e = pressed s l k (s.now - 4 * e.age) ((s.guardTask l e token entry).getD x) := by
    rw [resolvePress_entry code ms0 ms1 plain reported young known, if_neg (Nat.not_lt.2 late), State.pressEntry, shows]
    exact pressTarget_eq ids ..
  refine ⟨fun y recent back => ?_, fun keeps => ?_⟩
  · rw [resolved, guardTask_takesBack recent back]
    rfl
  · rw [resolved, guardTask_none keeps]
    rfl

/-! ### CONFIRM (R30, R31, R49, R79, R80) -/

theorem State.setLoc_queueNotice (s : State) (l : Loc) (x : Location) (n : Notice) (c : Option Nat) :
    (s.queueNotice n c).setLoc l x = (s.setLoc l x).queueNotice n c := by
  unfold State.queueNotice
  change State.setLoc (if s.notices.classes.get n.cls = 0 then s else _) l x = if s.notices.classes.get n.cls = 0 then _ else _
  split <;> rfl

theorem State.startLinger_eq (s : State) (l : Loc) (id : Nat) (i : Fin 8) : s.startLinger l id i =
    s.setLoc l { s.loc l with rot := { (s.loc l).rot with
      hold := (s.loc l).rot.hold.filter fun h => decide (h.task ≠ id),
      linger := if s.timing.linger = 0 then (s.loc l).rot.linger
        else some { task := id, slot := i, expiry := s.now + s.timing.linger } } } := by
  simp only [State.startLinger, State.endHold, State.modRot, State.modLoc, State.setLoc_frame, bne, beq_eq_decide, ne_eq, decide_not]
  by_cases off : s.timing.linger = 0
  · simp only [if_pos off]
  · simp only [if_neg off, State.loc_setLoc, if_true, State.setLoc_setLoc]

theorem State.release_eq (s : State) (q : Option Nat) : s.release q =
    { s with tasks := s.tasks.map fun t => if q = some t.id then { t with state := .opened, pred := none } else t } := by
  rw [← s.tasks_release q]
  unfold State.release
  cases q <;> rfl

/-- A closure in the statement's words (R30, R31, R49). -/
theorem closeTask_eq (s : State) (t : Task) (apart : t.succ ≠ some t.id) (o : TaskOutcome) (picked : Nat) : s.closeTask t o picked =
    (({ s with
      tasks := (s.tasks.map fun (x : Task) =>
        if x.id = t.id then { x with picked := picked, state := .closed, outcome := some o, offered := 0, succ := none,
                                     closure := some s.closures }
        else if t.succ = some x.id then { x with state := .opened, pred := none } else x),
      closures := s.closures + 1 }).setLoc t.loc { s.loc t.loc with
        tasks := (s.loc t.loc).tasks.filter fun i => decide (i ≠ t.id),
        rot := { (s.loc t.loc).rot with
          hold := (s.loc t.loc).rot.hold.filter fun h => decide (h.task ≠ t.id),
          linger := if s.timing.linger = 0 then (s.loc t.loc).rot.linger
            else some { task := t.id, slot := t.slot, expiry := s.now + s.timing.linger } } }).queueNotice
      (.taskClosed t.id t.slot t.loc o t.requested picked) (some s.closures) := by
  have one_pass : ((s.tasks.map fun x =>
      if x.id = t.id then { x with picked := picked, state := .closed, outcome := some o, offered := 0, succ := none,
                                   closure := some s.closures } else x).map fun x =>
        if t.succ = some x.id then { x with state := .opened, pred := none } else x) =
      s.tasks.map fun (x : Task) =>
        if x.id = t.id then { x with picked := picked, state := .closed, outcome := some o, offered := 0, succ := none,
                                     closure := some s.closures }
        else if t.succ = some x.id then { x with state := .opened, pred := none } else x := by
    rw [List.map_map]
    refine List.map_congr_left fun x _ => ?_
    by_cases closed : x.id = t.id
    · simp only [Function.comp_apply, if_pos closed]
      exact if_neg fun after => apart (after.trans (congrArg some closed))
    · simp only [Function.comp_apply, if_neg closed]
  have released : (({ (s.updTask t.id fun x => { x with
        picked := picked, state := .closed, outcome := some o, offered := 0, succ := none, closure := some s.closures }) with
      closures := s.closures + 1 }).unlist t.loc t.id).release t.succ =
      ({ s with
        tasks := (s.tasks.map fun (x : Task) =>
          if x.id = t.id then { x with picked := picked, state := .closed, outcome := some o, offered := 0, succ := none,
                                       closure := some s.closures }
          else if t.succ = some x.id then { x with state := .opened, pred := none } else x),
        closures := s.closures + 1 }).setLoc t.loc { s.loc t.loc with
          tasks := (s.loc t.loc).tasks.filter fun i => decide (i ≠ t.id) } := by
    simp only [State.release_eq, ← one_pass, State.unlist, bne, beq_eq_decide, ne_eq, decide_not]
    rfl
  refine (congrArg (fun u : State => (u.queueNotice (.taskClosed t.id t.slot t.loc o t.requested picked) (some s.closures)).startLinger
    t.loc t.id t.slot) released).trans ?_
  simp only [State.startLinger_eq, State.queueNotice_frame, State.setLoc_frame, State.loc_setLoc, if_true, State.setLoc_queueNotice,
    State.setLoc_setLoc]

/-- A KEEP partial in the statement's words (R79, R80). -/
theorem keepPartial_eq (s : State) (t : Task) (offered : Nat) : s.keepPartial t offered =
    (({ s with tasks := (s.tasks.map fun (x : Task) => if x.id = t.id
        then { x with picked := t.picked + offered, offered := x.requested - (t.picked + offered) } else x) }).setLoc
      t.loc { s.loc t.loc with rot := { (s.loc t.loc).rot with
        hold := (s.loc t.loc).rot.hold.filter fun h => decide (h.task ≠ t.id) } }).queueNotice
      (.taskPartial t.id t.slot t.loc (t.picked + offered) (t.requested - (t.picked + offered))) := by
  simp only [State.keepPartial, State.endHold, State.modRot, State.modLoc, State.queueNotice_frame, State.setLoc_queueNotice, bne,
    beq_eq_decide, ne_eq, decide_not]
  rfl

/-- Settles O45. -/
theorem confirmRuleHasFourCases : Obligations.ConfirmRuleHasFourCases := by
  intro s t offered open_ within apart closes
  have remaining : t.remaining = t.requested - t.picked := rfl
  refine ⟨fun full => ?_, fun some below close => ?_, fun zero => ?_, fun some below keep => ?_⟩
  · rw [State.applyConfirm, if_pos (full.trans remaining.symm), closeTask_eq s t apart]
  · rw [State.applyConfirm, if_neg (by omega), if_neg (by omega), close]
    exact closeTask_eq s t apart ..
  · rw [State.applyConfirm, if_neg (by omega), if_pos zero, closeTask_eq s t apart]
  · rw [State.applyConfirm, if_neg (by omega), if_neg (by omega), keep]
    exact keepPartial_eq s t offered

end Sys2Proof.Machine
end

section
/-! What a planning chooses, and when a token is issued. Settles O46 and O47. -/

namespace Sys2Proof.Machine

open Sys2Proof.Claims

/-! ### The eligible set (R26, R51) -/

theorem State.frontTask_eq_some {s : State} {l : Loc} {t : Task} : s.frontTask l t.slot = some t ↔
    t.state = .opened ∧ s.findTask t.id = some t ∧ ∃ before after, (s.loc l).tasks = before ++ t.id :: after ∧
      ∀ id ∈ before, ∀ u, s.findTask id = some u → ¬ (u.state = .opened ∧ u.slot = t.slot) := by
  have passed (id : Nat) : ((s.findTask id).filter fun u => u.state == .opened && u.slot == t.slot) = none ↔
      ∀ u, s.findTask id = some u → ¬ (u.state = .opened ∧ u.slot = t.slot) := by
    simp [Option.filter_eq_none_iff]
  rw [State.frontTask, List.findSome?_eq_some_iff]
  constructor
  · rintro ⟨before, id, after, split, found, ahead⟩
    obtain ⟨found, opened⟩ := Option.filter_eq_some_iff.1 found
    obtain rfl := (State.findTask_mem found).2
    exact ⟨(by simpa using opened), found, before, after, split, fun id hid => (passed id).1 (ahead id hid)⟩
  · rintro ⟨opened, found, before, after, split, ahead⟩
    exact ⟨before, t.id, after, split, Option.filter_eq_some_iff.2 ⟨found, by simp [opened]⟩, fun id hid => (passed id).2 (ahead id hid)⟩

theorem State.mem_eligible_iff {s : State} {l : Loc} {t : Task} : t ∈ s.eligible l ↔ Claims.eligible s l t := by
  rw [State.mem_eligible, State.frontTask_eq_some]
  rfl

/-- The eligible set is in order of slot number (R51). -/
theorem State.eligible_sorted (s : State) (l : Loc) : (s.eligible l).Pairwise fun t u => t.slot < u.slot := by
  have slot_of {i : Fin 8} {t : Task} (shown : (if (s.session i).state = .active then s.frontTask l i else none) = some t) : t.slot = i := by
    split at shown
    · exact (State.frontTask_prop shown).2.1
    · cases shown
  unfold State.eligible
  rw [List.pairwise_filterMap]
  exact (List.pairwise_lt_finRange 8).imp fun below t ht u hu => by rwa [slot_of ht, slot_of hu]

/-- An id names at most one task of the eligible set. -/
theorem State.eligible_unique {s : State} {l : Loc} {t u : Task} (ht : t ∈ s.eligible l) (hu : u ∈ s.eligible l) (same : t.id = u.id) :
    t = u := by
  obtain ⟨-, -, found_t, -⟩ := State.mem_eligible_iff.1 ht
  obtain ⟨-, -, found_u, -⟩ := State.mem_eligible_iff.1 hu
  exact Option.some.inj (found_t.symm.trans (same ▸ found_u))

/-! ### Content and dwell (R55, R57) -/

theorem State.taskFace_eq (s : State) (l : Loc) (t : Task) : s.taskFace l t = taskContent s l t := by
  unfold State.taskFace taskContent
  cases (s.loc l).kind with
  | none => rfl
  | some kind => cases kind <;> rfl

theorem State.dwellOf_eq (s : State) (set : List Task) (t : Task) : s.dwellOf set t = dwell s set t := by
  have larger (a b : Nat) : max a b = if b < a then a else b := by split <;> omega
  simp only [State.dwellOf, larger]
  rfl

theorem State.showTask_eq (s : State) (l : Loc) (t : Task) (rot : Rotation) (dwell : Option Instant) (advanced : Bool) :
    s.showTask l t rot dwell advanced =
      { meaning := .task { task := t.id, slot := t.slot }, face := taskContent s l t,
        rot := { rot with dwell := dwell, position := some t.slot }, advanced := advanced } := by
  rw [State.showTask, State.taskFace_eq]

/-! ### Cases 4 to 7 (R50 to R54) -/

section Cases

variable {s : State} {l : Loc} {rot : Rotation}

theorem chooseTask_held {h : Hold} {t : Task} (hold : rot.hold = some h) (mem : t ∈ s.eligible l) (names : t.id = h.task) :
    s.chooseTask l rot = s.showTask l t rot (some s.now) false := by
  have found : (s.eligible l).find? (fun u => u.id == h.task) = some t := by
    cases search : (s.eligible l).find? fun u => u.id == h.task with
    | none => exact absurd (beq_iff_eq.2 names) (List.find?_eq_none.1 search t mem)
    | some u =>
      have same : u.id = h.task := by simpa using List.find?_some search
      rw [State.eligible_unique (List.mem_of_find?_eq_some search) mem (same.trans names.symm)]
  simp only [State.chooseTask, hold, Option.bind_some, found]

/-- With no hold on a task of the eligible set, the set decides. -/
theorem chooseTask_free (free : ∀ h t, rot.hold = some h → t ∈ s.eligible l → t.id ≠ h.task) :
    (s.eligible l = [] → s.chooseTask l rot =
      { meaning := .idle, face := Face.dark, rot := { rot with hold := none, dwell := none }, advanced := false }) ∧
    (∀ t, s.eligible l = [t] → s.chooseTask l rot = s.showTask l t { rot with hold := none } none false) ∧
    (∀ t u rest, s.eligible l = t :: u :: rest → s.chooseTask l rot = s.rotate l { rot with hold := none } t (u :: rest)) := by
  have none_held : (rot.hold.bind fun h => (s.eligible l).find? fun t => t.id == h.task) = none := by
    rw [Option.bind_eq_none_iff]
    intro h hold
    rw [List.find?_eq_none]
    exact fun t mem named => free h t hold mem (beq_iff_eq.1 named)
  refine ⟨fun set => ?_, fun t set => ?_, fun t u rest set => ?_⟩ <;>
  · simp only [State.chooseTask, none_held]
    rw [set]

/-- The current task is named by id and slot (assumption 19). -/
theorem currentTask_some {t : Task} (mem : t ∈ s.eligible l) :
    currentTask (some (.task { task := t.id, slot := t.slot })) (s.eligible l) = some t := by
  cases search : (s.eligible l).find? fun u => u.id == t.id && u.slot == t.slot with
  | none => exact absurd (by simp) (List.find?_eq_none.1 search t mem)
  | some u =>
    have same : u.id = t.id ∧ u.slot = t.slot := by simpa using List.find?_some search
    exact search.trans (congrArg some (State.eligible_unique (List.mem_of_find?_eq_some search) mem same.1))

theorem currentTask_eq_none {meaning : Option Meaning} {set : List Task}
    (gone : ∀ t ∈ set, meaning ≠ some (.task { task := t.id, slot := t.slot })) : currentTask meaning set = none := by
  unfold currentTask
  split
  next x =>
    rw [List.find?_eq_none]
    rintro t mem named
    obtain ⟨id, slot⟩ : t.id = x.task ∧ t.slot = x.slot := by simpa using named
    exact gone t mem (by rw [id, slot])
  · rfl

/-- The session whose turn is next has the lowest slot above the rotation position, or the lowest of all (R54). -/
theorem nextInCycle_spec {position : Option (Fin 8)} {first : Task} {rest : List Task}
    (sorted : (first :: rest).Pairwise fun t u => t.slot < u.slot) :
    let next := nextInCycle position first (first :: rest)
    (∀ p, position = some p → (∃ u ∈ first :: rest, p < u.slot) → p < next.slot ∧ ∀ u ∈ first :: rest, p < u.slot → next.slot ≤ u.slot) ∧
    ((∀ p, position = some p → ∀ u ∈ first :: rest, ¬ p < u.slot) → ∀ u ∈ first :: rest, next.slot ≤ u.slot) := by
  have least (u : Task) (mem : u ∈ first :: rest) : first.slot ≤ u.slot := by
    obtain rfl | later := List.mem_cons.1 mem
    · exact le_refl _
    · exact le_of_lt (List.rel_of_pairwise_cons sorted later)
  unfold nextInCycle
  cases position with
  | none => exact ⟨fun p some => (nomatch some), fun _ => least⟩
  | some q =>
    dsimp only
    cases search : (first :: rest).find? fun t => decide (q < t.slot) with
    | none =>
      have below (u : Task) (mem : u ∈ first :: rest) : ¬ q < u.slot := by simpa using List.find?_eq_none.1 search u mem
      exact ⟨fun p same ⟨u, mem, above⟩ => absurd (Option.some.inj same ▸ above) (below u mem), fun _ => least⟩
    | some t =>
      obtain ⟨above, before, after, split, ahead⟩ := List.find?_eq_some_iff_append.1 search
      have above : q < t.slot := of_decide_eq_true above
      refine ⟨fun p same _ => ?_, fun last => absurd above (last q rfl t (List.mem_of_find?_eq_some search))⟩
      obtain rfl := Option.some.inj same
      refine ⟨above, fun u mem higher => ?_⟩
      rw [split] at mem sorted
      obtain early | late := List.mem_append.1 mem
      · exact absurd higher (by simpa using ahead u early)
      · obtain rfl | later := List.mem_cons.1 late
        · exact le_refl _
        · exact le_of_lt (List.rel_of_pairwise_cons (List.pairwise_append.1 sorted).2.1 later)

end Cases

/-! ### Case 7 (R54) -/

section Rotate

variable {s : State} {l : Loc} {rot : Rotation} {first : Task} {rest : List Task} (set : s.eligible l = first :: rest)
include set

theorem rotate_stays {t : Task} {d : Nat} (mem : t ∈ s.eligible l) (shown : rot.meaning = some (.task { task := t.id, slot := t.slot }))
    (dwell : rot.dwell = some d) (early : s.now < d) : s.rotate l rot first rest = s.showTask l t rot (some d) false := by
  have current := currentTask_some mem
  rw [set] at current
  simp only [State.rotate, shown, current, dwell, if_pos early]

theorem rotate_dwells {t : Task} (mem : t ∈ s.eligible l) (shown : rot.meaning = some (.task { task := t.id, slot := t.slot }))
    (dwell : rot.dwell = none) : s.rotate l rot first rest = s.showTask l t rot (some (s.now + s.dwellOf (first :: rest) t)) false := by
  have current := currentTask_some mem
  rw [set] at current
  simp only [State.rotate, shown, current, dwell]

theorem rotate_advances (ends : (∀ t ∈ s.eligible l, rot.meaning ≠ some (.task { task := t.id, slot := t.slot })) ∨
      ∃ d, rot.dwell = some d ∧ d ≤ s.now) :
    s.rotate l rot first rest = s.showTask l (nextInCycle rot.position first (first :: rest)) rot
      (some (s.now + s.dwellOf (first :: rest) (nextInCycle rot.position first (first :: rest)))) true := by
  unfold State.rotate
  dsimp only
  split
  · rfl
  next t current =>
    obtain gone | ⟨d, dwell, late⟩ := ends
    · rw [set] at gone
      rw [currentTask_eq_none gone] at current
      cases current
    · rw [dwell]
      exact if_neg (Nat.not_lt.2 late)

end Rotate

/-- Settles O46. -/
theorem planningTakesTheFirstCase : Obligations.PlanningTakesTheFirstCase := by
  intro s l old r dark set shows
  have is_r : (s.loc l).rot.expire s.now = r := rfl
  have is_shows (t : Task) (q : Rotation) (d : Option Nat) (a : Bool) : s.showTask l t q d a = shows t q d a := s.showTask_eq l t q d a
  refine ⟨fun t => State.mem_eligible_iff, s.eligible_sorted l, fun ms0 => ?_, fun ms0 ms1 => ?_, fun ms0 ms1 => ?_⟩
  · simp only [State.choose, ms0]
    rfl
  · simp only [State.choose, ms0, ms1]
    rfl
  refine ⟨fun p direct => ?_, fun plain => ⟨fun g linger => ?_, fun quiet => ?_⟩⟩
  · simp only [State.choose, ms0, ms1, is_r, direct]
    rfl
  · simp only [State.choose, ms0, ms1, is_r, plain, linger]
    rfl
  have tasks : s.choose l = s.chooseTask l r := by
    simp only [State.choose, ms0, ms1, is_r, plain, quiet]
    rfl
  rw [tasks]
  refine ⟨fun h t hold mem names => by rw [chooseTask_held hold mem names, is_shows], fun free => ?_⟩
  intro q current
  obtain ⟨empty, single, several⟩ := chooseTask_free free
  refine ⟨empty, fun t one => by rw [single t one, is_shows], fun two => ?_⟩
  obtain ⟨first, second, rest, is_set⟩ : ∃ first second rest, s.eligible l = first :: second :: rest := by
    obtain ⟨first, rest, is_set⟩ := List.exists_cons_of_length_pos (Nat.lt_of_lt_of_le Nat.zero_lt_two two)
    obtain ⟨second, rest, rfl⟩ := List.exists_cons_of_length_pos (l := rest) (by
      have length := congrArg List.length is_set
      rw [List.length_cons] at length
      omega)
    exact ⟨first, second, rest, is_set⟩
  rw [several first second rest is_set]
  have same_set : set = first :: second :: rest := is_set
  refine ⟨fun t d shown dwell early => ?_, fun t shown dwell => ?_, fun ends => ?_⟩
  · exact (rotate_stays (rot := q) is_set shown.1 shown.2 dwell early).trans (is_shows ..)
  · rw [rotate_dwells (rot := q) is_set shown.1 shown.2 dwell, is_shows, State.dwellOf_eq, same_set]
  · refine ⟨nextInCycle old.position first (first :: second :: rest), ?_, ?_, ?_⟩
    · rw [same_set]
      exact State.nextInCycle_mem List.mem_cons_self
    · rw [rotate_advances (rot := q) is_set (ends.imp_left fun gone t mem shown => gone t ⟨mem, shown⟩), is_shows, State.dwellOf_eq,
        same_set]
    · rw [same_set]
      exact nextInCycle_spec (is_set ▸ s.eligible_sorted l)

/-! ### Tokens (R58 to R60) -/

theorem Choice.issues_iff (c : Choice) : c.issues = true ↔
    c.rot.meaning ≠ some c.meaning ∨ (c.rot.fresh = true ∧ c.meaning ≠ .blanked) ∨ c.advanced = true := by
  simp [Choice.issues, or_assoc]

/-- Settles O47. -/
theorem tokenIsIssuedWhenTheMeaningChanges : Obligations.TokenIsIssuedWhenTheMeaningChanges := by
  intro s l old c new issues
  have is_new : new = c.settle s.now := by
    simp only [new, c, State.rot_plan, if_true]
  obtain ⟨same, -⟩ := s.choose_spec l
  have issues_iff : c.issues = true ↔ issues := by
    rw [Choice.issues_iff, show c.rot.meaning = old.meaning from same.meaning, show c.rot.fresh = old.fresh from same.fresh]
  clear_value new
  subst is_new
  have elsewhere (m : Loc) (other : m ≠ l) : (s.plan l).loc m = s.loc m := by rw [State.rot_plan, if_neg other]
  by_cases issued : c.issues = true
  · rw [c.settle_issues issued]
    refine ⟨rfl, rfl, rfl, rfl, rfl, rfl, same.direct, elsewhere, fun _ => ⟨?_, rfl, rfl, fun k => ?_⟩, fun none => absurd (issues_iff.1 issued) none⟩
    · have token : c.rot.token = old.token := same.token
      change (c.rot.token + 1).val = _
      rw [token]
      exact Fin.val_add _ _
    · have map : c.rot.map = old.map := same.map
      have here : (c.rot.token + 1).val = k.val ↔ k = c.rot.token + 1 := by rw [eq_comm, Fin.ext_iff]
      simp only [Vector.getElem_set, here, map]
  · rw [c.settle_keeps (Bool.eq_false_iff.2 issued)]
    exact ⟨rfl, rfl, rfl, rfl, rfl, rfl, same.direct, elsewhere, fun some => absurd (issues_iff.2 some) issued,
      fun _ => ⟨same.token, same.slotStart, same.fresh, same.map⟩⟩

end Sys2Proof.Machine
end

section
/-! Which commands send the LAMP frame of a visit, and what it shows. Settles O60. -/

namespace Sys2Proof.Machine

open Sys2Proof.Claims

/-! ### The frame of a visit (R44) -/

/-- The LAMP frame in progress on the bus is of the location, and a task in it is OPEN, at the front and its session ACTIVE. -/
def State.ShowsFront (t : State) (b : Fin 4) (i : Fin 62) : Prop :=
  ∃ scale alternate phase ack face,
    (t.bus b).sent = [.lamp (i.val + 1) face scale alternate phase ack (t.loc { bus := b, idx := i }).rot.token] ∧
    ∀ x, (t.loc { bus := b, idx := i }).rot.meaning = some (.task x) →
      face.colour = (t.session x.slot).colour ∧ ∃ u, u.id = x.task ∧ u.slot = x.slot ∧ Claims.eligible t { bus := b, idx := i } u

/-- The visit in progress on the bus, if any, has sent a frame of its own. -/
def State.FreshVisit (t : State) (b : Fin 4) : Prop := ∀ i k, (t.bus b).exchange = .visit i k → t.ShowsFront b i

/-- Eligibility depends on sessions, tasks and the task list only. -/
theorem eligible_congr {s t : State} {l : Loc} {u : Task} (sessions : ∀ i, t.session i = s.session i) (found : ∀ id, t.findTask id = s.findTask id)
    (list : (t.loc l).tasks = (s.loc l).tasks) : Claims.eligible t l u ↔ Claims.eligible s l u := by
  simp only [Claims.eligible, sessions, found, list]

theorem Choice.settle_shows (c : Choice) (now : Instant) : (c.settle now).meaning = some c.meaning ∧ (c.settle now).face = c.face := by
  by_cases issues : c.issues = true
  · rw [c.settle_issues issues]
    exact ⟨rfl, rfl⟩
  · rw [c.settle_keeps (Bool.eq_false_iff.2 issues)]
    exact ⟨rfl, rfl⟩

/-- An attempt plans the location at the instant of its frame, so the frame shows what the plan chose (R44). -/
theorem attempt_showsFront (s : State) (b : Fin 4) (i : Fin 62) (second : Bool) :
    (s.attempt { bus := b, idx := i } second).ShowsFront b i := by
  have list : ((s.attempt { bus := b, idx := i } second).loc { bus := b, idx := i }).tasks = (s.loc { bus := b, idx := i }).tasks := by
    simp [State.attempt_eq]
  have sessions (j : Fin 8) : (s.attempt { bus := b, idx := i } second).session j = s.session j :=
    congrArg (·[j]) (s.attempt_frame { bus := b, idx := i } second).2.2.2.2.2.2.2.2.2.1
  have tasks (id : Nat) : (s.attempt { bus := b, idx := i } second).findTask id = s.findTask id := by simp
  have rot : ((s.attempt { bus := b, idx := i } second).loc { bus := b, idx := i }).rot = (s.choose { bus := b, idx := i }).settle s.now := by
    simp [State.attempt_eq]
  obtain ⟨meaning, face⟩ := (s.choose { bus := b, idx := i }).settle_shows s.now
  have shows (x : Shown) (shown : ((s.choose { bus := b, idx := i }).settle s.now).meaning = some (.task x)) :
      ((s.choose { bus := b, idx := i }).settle s.now).face.colour = (s.session x.slot).colour ∧
      ∃ u, u.id = x.task ∧ u.slot = x.slot ∧ Claims.eligible s { bus := b, idx := i } u := by
    rw [meaning, Option.some.injEq] at shown
    obtain ⟨u, mem, rfl, content⟩ := (s.choose_spec { bus := b, idx := i }).2 x shown
    refine ⟨?_, u, rfl, rfl, State.mem_eligible_iff.1 mem⟩
    rw [face, content]
    rfl
  simp only [State.ShowsFront, rot, sessions, eligible_congr sessions tasks list]
  have sent := congrArg (fun u => (u.bus b).sent) (s.attempt_eq { bus := b, idx := i } second)
  simp only [State.bus_setBus, if_true] at sent
  exact ⟨_, _, _, _, _, sent, shows⟩

namespace State.FreshVisit

variable {b : Fin 4}

theorem of_exchange {t : State} {x : Exchange} (exchange : (t.bus b).exchange = x) (no_visit : ∀ i k, x ≠ .visit i k) : t.FreshVisit b :=
  fun i k visit => absurd (exchange.symm.trans visit) (no_visit i k)

theorem sendFrames (s : State) (frames : List AisleFrame) {x : Exchange} (no_visit : ∀ i k, x ≠ .visit i k) :
    (s.sendFrames b frames x).FreshVisit b := of_exchange (x := x) (by simp [State.sendFrames, State.modBus]) no_visit

theorem startRelease (s : State) : (s.startRelease b).FreshVisit b :=
  of_exchange (x := .none) (by simp [State.startRelease, State.modBus]) fun _ _ => by simp

theorem attempt (s : State) (i : Fin 62) (second : Bool) : (s.attempt { bus := b, idx := i } second).FreshVisit b := fun j k visit => by
  have here : j = i := by
    simp only [State.attempt, State.sendFrames, State.modBus, State.bus_setBus, if_true, Exchange.visit.injEq] at visit
    exact visit.1.symm
  exact here ▸ attempt_showsFront s b i second

theorem closeSweep (s : State) : (s.closeSweep b).FreshVisit b :=
  of_exchange (x := .none) (by rw [State.closeSweep_bus]) fun _ _ => by simp

/-! Every part of a sweep sends a frame of its own or ends the sweep. -/

section

variable {close : State → State} (closes : ∀ u : State, (close u).FreshVisit b)
include closes

theorem pollPart (s : State) (k : Nat) : (s.pollPart b k close).FreshVisit b := by
  obtain ⟨i, poll⟩ | ⟨i, probe⟩ | ends := s.pollPart_cases b k close
  · exact poll ▸ sendFrames s _ fun _ _ => by simp
  · exact probe ▸ sendFrames s _ fun _ _ => by simp
  · exact ends ▸ closes s

theorem visitPart (s : State) (k : Nat) : (s.visitPart b k close).FreshVisit b := by
  obtain ⟨i, -, visit⟩ | ⟨i, poll⟩ | ⟨i, probe⟩ | ends := s.visitPart_cases b k close
  · exact visit ▸ attempt s i false
  · exact poll ▸ sendFrames s _ fun _ _ => by simp
  · exact probe ▸ sendFrames s _ fun _ _ => by simp
  · exact ends ▸ closes s

theorem afterExchange (s : State) : (s.afterExchange b close).FreshVisit b := by
  obtain ⟨-, walk⟩ | ⟨-, goes_on⟩ := s.afterExchange_cases b close
  · exact walk ▸ startRelease s
  · exact goes_on ▸ closes s

end

theorem beginSweep (s : State) : (s.beginSweep b).FreshVisit b := by
  rw [State.beginSweep_eq]
  exact visitPart closeSweep _ 0

theorem endSweep (s : State) : (s.endSweep b).FreshVisit b := by
  obtain ends | again := s.endSweep_cases b
  · exact ends ▸ closeSweep s
  · exact again ▸ beginSweep (s.closeSweep b)

theorem nextVisit (s : State) (i : Fin 62) : (s.nextVisit b i).FreshVisit b := afterExchange (fun u => visitPart endSweep u _) s

theorem nextPoll (s : State) (i : Fin 62) : (s.nextPoll b i).FreshVisit b := afterExchange (fun u => pollPart endSweep u _) s

theorem afterProbe (s : State) : (s.afterProbe b).FreshVisit b := afterExchange endSweep s

theorem takeSent (s : State) (i : Fin 62) (k : Bool) :
    (s.afterExchange b fun u => u.sendFrames b [.take (i.val + 1)] (.probeTake i k)).FreshVisit b :=
  afterExchange (fun u => sendFrames u _ fun _ _ => by simp) s

theorem completeWalk (s : State) (n : Nat) : (s.completeWalk b n).FreshVisit b := by
  rw [completeWalk_eq]
  exact beginSweep _

theorem walkTaken (s : State) (i : Fin 62) (id : Identity) : (s.walkTaken b i id).FreshVisit b := by
  unfold State.walkTaken
  simp only []
  split
  · exact sendFrames _ _ fun _ _ => by simp
  · exact sendFrames _ _ fun _ _ => by simp

theorem visitUnanswered (s : State) (i : Fin 62) (second : Bool) : (s.visitUnanswered { bus := b, idx := i } second).FreshVisit b := by
  unfold State.visitUnanswered
  split
  · exact nextVisit _ i
  · split
    · exact startRelease s
    · exact attempt s i true

end State.FreshVisit

/-- A command of the pair has no effect or leaves a visit with a frame of its own. -/
theorem pair_freshVisit {c : Instr} {b : Fin 4} {s t : State} (of_bus : busOfCommand c = some b) (pair : ofPair c = true)
    (ran : exec c s = .next t) : t = s ∨ t.FreshVisit b := by
  cases c <;> cases of_bus <;> cases pair <;> obtain rfl := Host.Outcome.next.inj ran
  case sweepStart =>
    split
    · exact .inr (.beginSweep s)
    · exact .inl rfl
  case keysAnswer frame =>
    split
    next i second open_ =>
      split
      · exact .inr (.nextVisit _ i)
      · exact .inl rfl
    next => exact .inl rfl
  case keysWindowExpiry =>
    split
    next i second open_ => exact .inr (.visitUnanswered s i second)
    next => exact .inl rfl
  case identifyReply frame =>
    split
    next i open_ =>
      split
      · exact .inr (.nextPoll _ i)
      · exact .inl rfl
    next => exact .inl rfl
  case identifyWindowExpiry =>
    split
    next i open_ => exact .inr (.nextPoll s i)
    next => exact .inl rfl
  case hereAnswer frame =>
    split
    next i open_ =>
      split
      · exact .inr (.takeSent _ i false)
      · exact .inl rfl
    next open_ =>
      split
      · exact .inr (.completeWalk _ 62)
      · exact .inl rfl
    next => exact .inl rfl
  case hereWindowExpiry =>
    split
    next i open_ => exact .inr (.afterProbe s)
    next open_ => exact .inr (.completeWalk s 62)
    next => exact .inl rfl
  case enrLowEnd =>
    split
    · exact .inr (.sendFrames _ _ fun _ _ => by simp)
    · exact .inl rfl
  case takenAnswer frame =>
    split
    next i second open_ =>
      split
      · exact .inr (.walkTaken s i _)
      · exact .inl rfl
    next i second open_ =>
      split
      · exact .inr (.afterProbe _)
      · exact .inl rfl
    next => exact .inl rfl
  case takenWindowExpiry =>
    split
    next i second open_ =>
      split
      · exact .inr (.completeWalk s i.val)
      · exact .inr (.sendFrames s _ fun _ _ => by simp)
    next i second open_ =>
      split
      · exact .inr (.afterProbe s)
      · exact .inr (.takeSent s i true)
    next => exact .inl rfl
  case enrolWaitEnd =>
    split
    · exact .inr (.startRelease s)
    · exact .inl rfl
  case resettingEnd =>
    split
    · exact .inr (.startRelease _)
    · exact .inl rfl

/-! ### The other commands send no LAMP frame -/

/-- The visit in progress on the bus, if any, is the exchange `x`, and `frames` are what was sent last. -/
def State.OldVisit (x : Exchange) (frames : List AisleFrame) (b : Fin 4) (t : State) : Prop :=
  ∀ i k, (t.bus b).exchange = .visit i k → x = .visit i k ∧ (t.bus b).sent = frames

namespace State.OldVisit

variable {x : Exchange} {frames : List AisleFrame} {b : Fin 4} {s t : State}

theorem refl (s : State) : s.OldVisit (s.bus b).exchange (s.bus b).sent b := fun _ _ visit => ⟨visit, rfl⟩

theorem of_same (h : s.OldVisit x frames b) (exchange : (t.bus b).exchange = (s.bus b).exchange) (sent : (t.bus b).sent = (s.bus b).sent) :
    t.OldVisit x frames b := fun i k visit => by
  obtain ⟨old, last⟩ := h i k (exchange.symm.trans visit)
  exact ⟨old, sent.trans last⟩

theorem of_bus (h : s.OldVisit x frames b) (same : t.bus b = s.bus b) : t.OldVisit x frames b :=
  h.of_same (congrArg Bus.exchange same) (congrArg Bus.sent same)

theorem of_none (none : (t.bus b).exchange = .none) : t.OldVisit x frames b :=
  fun i k visit => by cases none.symm.trans visit

/-- A bus is replaced by one that goes on with its exchange, or by one without any. -/
theorem setBus (h : s.OldVisit x frames b) (d : Fin 4) (u : Bus)
    (goes_on : u.exchange = .none ∨ (u.exchange = (s.bus d).exchange ∧ u.sent = (s.bus d).sent)) : (s.setBus d u).OldVisit x frames b := by
  by_cases here : d = b
  · subst here
    have bus : (s.setBus d u).bus d = u := by rw [State.bus_setBus, if_pos rfl]
    obtain none | ⟨exchange, sent⟩ := goes_on
    · exact of_none (by rw [bus, none])
    · exact h.of_same (by rw [bus, exchange]) (by rw [bus, sent])
  · exact h.of_bus (by rw [State.bus_setBus, if_neg (Ne.symm here)])

/-! #### Requests -/

theorem setSweep (h : s.OldVisit x frames b) (bus period : Nat) : (s.setSweep bus period).1.OldVisit x frames b := by
  refine State.withBus_keeps (P := fun r => r.1.OldVisit x frames b) h fun d => ?_
  split
  · exact h
  · exact h.setBus d _ (.inr ⟨rfl, rfl⟩)

theorem enrol (h : s.OldVisit x frames b) (bus : Nat) : (s.enrolRequest bus).1.OldVisit x frames b := by
  refine State.withBus_keeps (P := fun r => r.1.OldVisit x frames b) h fun d => ?_
  split
  · exact h
  · split
    · exact h
    · rw [State.startEnrol_eq]
      have governed : (s.setGovernor d { s.governor d with phaseExpiry := Option.none }).OldVisit x frames b := h
      refine governed.setBus d _ ?_
      split
      · exact .inr ⟨rfl, rfl⟩
      · exact .inl rfl

theorem resetBus (h : s.OldVisit x frames b) (bus : Nat) : (s.resetBusRequest bus).1.OldVisit x frames b := by
  refine State.withBus_keeps (P := fun r => r.1.OldVisit x frames b) h fun d => ?_
  have resets : ((s.clearBus d).enterResetting d).OldVisit x frames b := by
    rw [State.enterResetting_clearBus]
    exact h.setBus d _ (.inl rfl)
  have clears : (s.clearBus d).OldVisit x frames b := by
    rw [State.clearBus_eq]
    exact h.setBus d _ (.inr ⟨rfl, rfl⟩)
  simp only []
  split
  · exact resets
  · exact resets
  · exact resets
  · exact clears
  · exact h
  · exact h

theorem owner (h : s.OldVisit x frames b) {i : Instr} {f : State → State × Answer} (owned : requestOwner i = some f) :
    (f s).1.OldVisit x frames b := by
  cases i <;> cases owned
  case resetPart =>
    refine of_none ?_
    simp only [State.resetPart, State.commandReset, State.bus, Vector.getElem_ofFn, State.commandResetBus]
    split <;> rfl
  case setSweep bus period => exact h.setSweep bus period
  case enrol bus => exact h.enrol bus
  case resetBus bus => exact h.resetBus bus
  all_goals exact h.of_bus (by simp)

theorem request (h : s.OldVisit x frames b) (i : Instr) : (s.runRequest i).OldVisit x frames b :=
  State.runRequest_keeps (fun _ _ h => h) h (fun _ _ owned _ => h.owner owned) i

/-! #### Lines and link port -/

theorem settleOutbound (h : s.OldVisit x frames b) (o : Outbound) (count : Nat) : (s.settleOutbound o count).OldVisit x frames b := by
  unfold State.settleOutbound
  simp only []
  split
  · cases o with
    | empty => exact h
    | answer a => exact h
    | notice e =>
      unfold State.removeNotice
      simp only []
      split
      · exact h
      · exact h
  · exact h

theorem line (h : s.OldVisit x frames b) (step : LineStep s t) : t.OldVisit x frames b := by
  cases step with
  | hold => exact of_none (by simp [State.hold, State.bus, Bus.initial])
  | release held => exact of_none (by simp [State.released, State.bus, Bus.initial])
  | lines dark lamptest => exact h
  | fallInReset => exact h
  | fall working => exact h
  | firstByte kind => exact h
  | riseAlone none => exact h
  | rise o further inProgress =>
    have before : State.OldVisit x frames b { s with lcs := true } := h
    exact State.completeTransaction_keeps (fun _ _ h => h) (fun _ o n h => h.settleOutbound o n)
      (fun _ _ _ owned _ h => h.owner owned) before o further

/-! #### Supply and phase -/

/-- A sample leaves the exchange, or a brownout ends it (R122, R137). -/
theorem completeSample (h : s.OldVisit x frames b) (start : Instant) (level : Nat) :
    (s.completeSample b start level).OldVisit x frames b := by
  have recorded : (s.recordSample b level).OldVisit x frames b := h.of_bus (by simp)
  have checked : ((s.recordSample b level).supplyCheck b level).OldVisit x frames b := by
    unfold State.supplyCheck
    split
    · split
      · exact of_none (by simp [State.declareBrownout, State.modBus])
      · exact recorded
    · split
      · split
        · refine recorded.of_same ?_ ?_ <;> (unfold State.recover; simp only []; split <;> simp [State.modBus])
        · exact recorded
      · exact recorded
  exact checked.of_same (by simp [State.completeSample]) (by simp [State.completeSample])

theorem flipPhase (h : s.OldVisit x frames b) : (s.flipPhase b).OldVisit x frames b := by
  unfold State.flipPhase
  split
  · exact h
  · split
    · exact h.setBus b _ (.inr ⟨rfl, rfl⟩)
    · exact h

end State.OldVisit

/-- A command that is none of the pair of a bus leaves or ends the visit on that bus. -/
theorem other_oldVisit {c : Instr} {b : Fin 4} {s t : State} (no_pair : ¬ (busOfCommand c = some b ∧ ofPair c = true))
    (ran : exec c s = .next t) : t.OldVisit (s.bus b).exchange (s.bus b).sent b := by
  have h := State.OldVisit.refl (b := b) s
  cases bus : busOfCommand c with
  | none =>
    cases owner : requestOwner c with
    | some f =>
      rw [exec_request (by rw [owner]; rfl)] at ran
      exact Host.Outcome.next.inj ran ▸ h.request c
    | none =>
      obtain ⟨u, hu, rfl | line⟩ := exec_lines owner bus s
      all_goals obtain rfl := Host.Outcome.next.inj (hu.symm.trans ran)
      · exact h
      · exact h.line line
  | some d =>
    by_cases here : d = b
    · subst here
      cases c <;> cases bus
      case pos.sampleStart =>
        obtain rfl := Host.Outcome.next.inj ran
        split
        · exact h
        · exact h
      case pos.sampleComplete supply =>
        obtain rfl := Host.Outcome.next.inj ran
        split
        next start running =>
          split
          · exact h.completeSample start _
          · exact h
        next => exact h
      case pos.phaseFlip => exact Host.Outcome.next.inj ran ▸ h.flipPhase
      all_goals exact absurd ⟨rfl, rfl⟩ no_pair
    · exact h.of_bus ((exec_onlyBus bus ran).blocks b (Ne.symm here)).1

/-- Settles O60: a command of the pair leaves a visit only with the frame of an attempt (`State.FreshVisit`), which shows what was
planned at that instant; every other command leaves the visit and its frame as they were, or ends it (`State.OldVisit`). -/
theorem lampFramesShowOnlyOpenFrontTasks : Obligations.LampFramesShowOnlyOpenFrontTasks := by
  intro c s t b i second ran visit sends
  by_cases pair : busOfCommand c = some b ∧ ofPair c = true
  · obtain rfl | fresh := pair_freshVisit pair.1 pair.2 ran
    · obtain other | other | ⟨-, -, other⟩ := sends
      · exact absurd visit other
      · exact absurd rfl other
      · exact absurd rfl other
    · exact fresh i second visit
  · obtain ⟨exchange, sent⟩ := other_oldVisit pair ran i second visit
    obtain other | other | ⟨of_bus, of_pair, -⟩ := sends
    · exact absurd exchange other
    · exact absurd sent other
    · exact absurd ⟨of_bus, of_pair⟩ pair

end Sys2Proof.Machine
end

section
/-! Frames between the part and its lamp modules (R111 to R113, R124, R179). Settles O52. -/

namespace Sys2Proof.Machine

open Sys2Proof.Claims

/-! ### Frames of the part as a module reads them -/

theorem glyphOf_code (g : Glyph) : glyphOf (BitVec.ofNat 8 g.code) = g := by
  have small : g.code < 256 := by
    cases g with
    | digit d => exact d.isLt.trans (by decide)
    | blank => decide
    | dash => decide
  rw [glyphOf, toNat_byte small, Glyph.ofCode_code, Option.getD_some]

theorem ofCode_lampCode (c : Option Colour) : Colour.ofCode (BitVec.ofNat 8 (lampCode c)).toNat = c := by
  cases c with
  | none => rfl
  | some c => cases c <;> rfl

/-- The bits of the flags byte of a LAMP frame. -/
theorem lampFlags_bits (blink : Blink) (alternate phase ack : Bool) :
    (if (BitVec.ofNat 8 (lampFlags blink alternate phase ack)).getLsbD 0 then Blink.slow else Blink.steady) = blink ∧
    (BitVec.ofNat 8 (lampFlags blink alternate phase ack)).getLsbD 1 = alternate ∧
    (BitVec.ofNat 8 (lampFlags blink alternate phase ack)).getLsbD 2 = phase ∧
    (BitVec.ofNat 8 (lampFlags blink alternate phase ack)).getLsbD 3 = ack := by
  cases blink <;> revert alternate phase ack <;> decide

theorem readFrame_lamp {address scale : Nat} (face : Face) (alternate phase ack : Bool) (token : Fin 8) (small : address < 256)
    (scaled : scale ≤ 16) :
    readFrame (AisleFrame.lamp address face scale alternate phase ack token).bytes =
      some (.lamp address face scale alternate phase ack token) := by
  have opened : readFrame (AisleFrame.lamp address face scale alternate phase ack token).bytes =
      readLamp (BitVec.ofNat 8 address) (BitVec.ofNat 8 (lampCode face.colour)) (BitVec.ofNat 8 face.chars.left.code)
        (BitVec.ofNat 8 face.chars.mid.code) (BitVec.ofNat 8 face.chars.right.code) (BitVec.ofNat 8 scale)
        (BitVec.ofNat 8 (lampFlags face.blink alternate phase ack)) (BitVec.ofNat 8 token.val) := if_pos rfl
  obtain ⟨blink, mode, flipped, bit⟩ := lampFlags_bits face.blink alternate phase ack
  have token_toNat : (BitVec.ofNat 8 token.val).toNat = token.val := toNat_byte (by omega)
  rw [opened, readLamp, dif_pos (by omega)]
  simp only [toNat_byte small, toNat_byte (show scale < 256 by omega), token_toNat, ofCode_lampCode, glyphOf_code, blink, mode,
    flipped, bit, Nat.min_eq_right scaled]

theorem readFrame_identify {address : Nat} (small : address < 256) :
    readFrame (AisleFrame.identify address).bytes = some (.identify address) := by
  have opened : readFrame (AisleFrame.identify address).bytes = some (.identify (BitVec.ofNat 8 address).toNat) := if_neg (fun h => h rfl)
  rw [opened, toNat_byte small]

theorem readFrame_take {address : Nat} (small : address < 256) : readFrame (AisleFrame.take address).bytes = some (.take address) := by
  have opened : readFrame (AisleFrame.take address).bytes = some (.take (BitVec.ofNat 8 address).toNat) := if_neg (fun h => h rfl)
  rw [opened, toNat_byte small]

theorem readFrame_look {pred : Nat} (small : pred < 256) : readFrame (AisleFrame.look pred).bytes = some (.look pred) := by
  have opened : readFrame (AisleFrame.look pred).bytes = some (.look (BitVec.ofNat 8 pred).toNat) := if_neg (fun h => h rfl)
  rw [opened, toNat_byte small]

theorem readFrame_release : readFrame AisleFrame.release.bytes = some .release := by
  rw [AisleFrame.bytes, withCrc, List.singleton_append, readFrame, if_pos rfl]

/-! ### Answers of a module as the part reads them -/

theorem readKeys_quiet {address : Nat} (small : address < 256) (now : Nat) : readKeys address (keysBytes address none now) = some none :=
  readKeys_withCrc small 0#8 0#8 0#8 0#8 0#8

/-- What the KEYS answer says of a held event: its age is reckoned at the sending (R124). -/
def HeldEvent.report (e : HeldEvent) (now : Nat) : KeyEvent :=
  { bit := e.bit, key := e.key.code, token := e.token, since := e.since, age := min 255 ((now - e.pressed) / 4) }

theorem readKeys_event {address : Nat} (small : address < 256) (e : HeldEvent) (now : Nat) (token : e.token < 256) (since : e.since < 256) :
    readKeys address (keysBytes address (some e) now) = some (some (e.report now)) := by
  refine (readKeys_withCrc small (BitVec.ofNat 8 (1 + 2 * e.bit.toNat)) (BitVec.ofNat 8 e.key.code) (BitVec.ofNat 8 e.token)
    (BitVec.ofNat 8 e.since) (BitVec.ofNat 8 (ticks4 (now - e.pressed)))).trans (congrArg some ?_)
  have flags : (BitVec.ofNat 8 (1 + 2 * e.bit.toNat)).getLsbD 0 = true ∧ (BitVec.ofNat 8 (1 + 2 * e.bit.toNat)).getLsbD 1 = e.bit := by
    cases e.bit <;> decide
  have key : e.key.code < 256 := by cases e.key <;> decide
  have age : ticks4 (now - e.pressed) < 256 := by
    unfold ticks4
    omega
  rw [eventOf, if_pos flags.1, flags.2, toNat_byte key, toNat_byte token, toNat_byte since, toNat_byte age]
  rfl

/-- A serial is its four bytes (R179). -/
theorem serial_bytes (x : BitVec 32) :
    x.extractLsb' 24 8 ++ x.extractLsb' 16 8 ++ x.extractLsb' 8 8 ++ x.extractLsb' 0 8 = x := by
  apply BitVec.eq_of_getLsbD_eq
  intro i small
  simp only [BitVec.getLsbD_append, BitVec.getLsbD_extractLsb']
  grind

/-- What a module says of itself. -/
def LampModule.identity (m : LampModule) : Identity := { code := m.kindCode.toNat, serial := m.serial }

theorem readIdentity_identityBytes (m : LampModule) (kind : Byte) {address : Nat} (small : address < 256) :
    readIdentity kind address (m.identityBytes kind address) = some m.identity := by
  refine (readIdentity_withCrc small kind m.kindCode _ _ _ _).trans ?_
  rw [serial_bytes]
  rfl

theorem readHere_withCrc {pred : Nat} (small : pred < 255) (address : Nat) :
    readHere address (withCrc [0xA2#8, BitVec.ofNat 8 (pred + 1)]) = true ↔ address = pred + 1 := by
  have here : readHere address (withCrc [0xA2#8, BitVec.ofNat 8 (pred + 1)]) = ((BitVec.ofNat 8 (pred + 1)).toNat == address) :=
    (congrArg₂ and (Bool.true_and _) (beq_self_eq_true _)).trans (Bool.and_true _)
  rw [here, toNat_byte (by omega), beq_iff_eq, eq_comm]

/-! ### What a frame does to a module -/

section

variable {m : LampModule} (powered : m.powered = true)
include powered

theorem receive_lamp {address scale : Nat} (mine : m.address = some address) (small : address < 256) (scaled : scale ≤ 16) (face : Face)
    (alternate phase ack : Bool) (token : Fin 8) (now : Nat) :
    m.receive (cleanBytes (AisleFrame.lamp address face scale alternate phase ack token).bytes) now =
      (m.takeLamp { face := face, scale := scale, lit := litAt address alternate phase } ack token.val now,
        some (keysBytes address (acknowledge ack m.events).head? now)) := by
  rw [LampModule.receive, if_neg (by simp [powered]), bind_clean, readFrame_lamp face alternate phase ack token small scaled]
  exact if_pos mine

theorem receive_take {address : Nat} (small : address < 256) (now : Nat) :
    m.receive (cleanBytes (AisleFrame.take address).bytes) now = m.takeAddress address := by
  rw [LampModule.receive, if_neg (by simp [powered]), bind_clean, readFrame_take small]

theorem receive_look {pred : Nat} (small : pred < 256) (now : Nat) :
    m.receive (cleanBytes (AisleFrame.look pred).bytes) now = m.takeLook pred now := by
  rw [LampModule.receive, if_neg (by simp [powered]), bind_clean, readFrame_look small]

end

/-- Settles O52. -/
theorem partAndModuleReadEachOthersFrames : Obligations.PartAndModuleReadEachOthersFrames := by
  refine ⟨fun f fits => ?_, fun address now small => readKeys_quiet small now,
    fun address e now small token since => readKeys_event small e now token since,
    fun m address small => ⟨readIdentity_identityBytes m 0xA1#8 small, readIdentity_identityBytes m 0x92#8 small⟩,
    fun m pred now small powered free => ?_, fun bytes frame => ⟨goodBytes_clean bytes, fun wrong_stop => ?_⟩⟩
  · cases f with
    | lamp address face scale alternate phase ack token => exact readFrame_lamp face alternate phase ack token fits.1 fits.2
    | identify address => exact readFrame_identify fits
    | release => exact readFrame_release
    | take address => exact readFrame_take fits
    | look pred => exact readFrame_look fits
  · rw [receive_look powered (by omega), LampModule.takeLook, free]
    exact ⟨fun asserted => ⟨_, congrArg (Prod.mk m) (if_pos asserted), readHere_withCrc small⟩,
      fun other => congrArg (Prod.mk m) (if_neg other)⟩
  · have unread := goodBytes_wrong_stop wrong_stop
    have finds_none {α : Type} (read : List Byte → Option α) : (goodBytes frame).bind read = none := by rw [unread, Option.bind_none]
    exact ⟨unread, fun m now => receive_unread (finds_none _), fun b s => ⟨exec_keysAnswer_unread fun _ _ => finds_none _,
      exec_identifyReply_unread fun _ _ => finds_none _, exec_takenAnswer_unread fun _ _ => finds_none _,
      exec_hereAnswer_unread fun _ _ => by rw [unread, Option.any_none]⟩⟩

end Sys2Proof.Machine
end

section
/-! Key events from module to part: each is accepted once, in order (R116, R123 to R125). Settles O53. -/

namespace Sys2Proof.Machine

open Sys2Proof.Claims

/-! ### Acknowledge bits of the locations -/

/-- The locations carry the acknowledge bits `a`. -/
def State.Acks (a : Loc → Bool) (t : State) : Prop := ∀ l, (t.loc l).ack = a l

namespace State.Acks

variable {a : Loc → Bool} {s t : State} {b : Fin 4}

theorem of_locs (h : s.Acks a) (locs : t.locs = s.locs) : t.Acks a := fun l => by
  have same : t.loc l = s.loc l := by simp only [State.loc, locs]
  rw [same]
  exact h l

/-- An attempt plans the location, which leaves its acknowledge bit. -/
theorem attempt (h : s.Acks a) (l : Loc) (second : Bool) : (s.attempt l second).Acks a := fun m => by
  rw [State.attempt_eq]
  change (((s.setLoc l { s.loc l with rot := (s.choose l).settle s.now }).loc m).ack = a m)
  rw [State.loc_setLoc]
  split
  next here => exact here ▸ h l
  next => exact h m

theorem sendFrames (h : s.Acks a) (frames : List AisleFrame) (x : Exchange) : (s.sendFrames b frames x).Acks a := h.of_locs rfl

theorem startRelease (h : s.Acks a) : (s.startRelease b).Acks a := h.of_locs rfl

theorem closeSweep (h : s.Acks a) : (s.closeSweep b).Acks a := h.of_locs (by simp)

section

variable {close : State → State} (closes : ∀ {u : State}, u.Acks a → (close u).Acks a)
include closes

theorem visitPart (h : s.Acks a) (k : Nat) : (s.visitPart b k close).Acks a := by
  obtain ⟨i, -, visit⟩ | ⟨i, poll⟩ | ⟨i, probe⟩ | ends := s.visitPart_cases b k close
  · exact visit ▸ h.attempt _ false
  · exact poll ▸ h.sendFrames _ _
  · exact probe ▸ h.sendFrames _ _
  · exact ends ▸ closes h

theorem afterExchange (h : s.Acks a) : (s.afterExchange b close).Acks a := by
  obtain ⟨-, walk⟩ | ⟨-, goes_on⟩ := s.afterExchange_cases b close
  · exact walk ▸ h.startRelease
  · exact goes_on ▸ closes h

end

theorem endSweep (h : s.Acks a) : (s.endSweep b).Acks a := by
  obtain ends | again := s.endSweep_cases b
  · exact ends ▸ h.closeSweep
  · have begun : (((s.closeSweep b).setBus b ((s.closeSweep b).startedBus b)).governSweep b).Acks a :=
      State.Acks.of_locs (s := (s.closeSweep b).setBus b ((s.closeSweep b).startedBus b)) (h.closeSweep.of_locs rfl) (by simp)
    rw [again, State.beginSweep_eq]
    exact begun.visitPart closeSweep 0

theorem nextVisit (h : s.Acks a) (i : Fin 62) : (s.nextVisit b i).Acks a := afterExchange (fun h => h.visitPart endSweep _) h

theorem afterProbe (h : s.Acks a) : (s.afterProbe b).Acks a := afterExchange endSweep h

end State.Acks

/-- What follows a visit leaves the acknowledge bits. -/
theorem ack_goOn (s : State) (b : Fin 4) (i : Fin 62) (l : Loc) : ((goOn s b i).loc l).ack = (s.loc l).ack :=
  State.Acks.nextVisit (a := fun m => (s.loc m).ack) (fun _ => rfl) i l

theorem ack_visitUnanswered (s : State) (b : Fin 4) (i : Fin 62) (second : Bool) (l : Loc) :
    ((s.visitUnanswered { bus := b, idx := i } second).loc l).ack = (s.loc l).ack := by
  have before : s.Acks fun m => (s.loc m).ack := fun _ => rfl
  have failed : (s.failVisit { bus := b, idx := i }).Acks fun m => (s.loc m).ack := by
    have counted : (s.modLoc { bus := b, idx := i } Location.failed).Acks fun m => (s.loc m).ack := fun m => by
      rw [State.loc_modLoc]
      split
      next here => exact here ▸ rfl
      next => rfl
    unfold State.failVisit
    simp only []
    split
    · exact counted.of_locs (by simp)
    · exact counted
  unfold State.visitUnanswered
  split
  · exact failed.nextVisit i l
  · split
    · exact before.startRelease l
    · exact before.attempt _ true l

/-- A TAKEN sets the acknowledge bit (R94). -/
theorem ack_classifyAt (s : State) (l : Loc) (id : Identity) : ((s.classifyAt l id true).loc l).ack = true := by
  unfold State.classifyAt
  simp only []
  split <;> simp [Location.classify]

/-! ### The events of a module (R123, R124) -/

/-- What the LAMP frame's acknowledge bit leaves is what the part has not accepted. -/
theorem acknowledge_eq (ack : Bool) (m : LampModule) : acknowledge ack m.events = unaccepted ack m := by
  unfold acknowledge unaccepted
  cases m.events <;> rfl

theorem alternate_tail {e : HeldEvent} {es : List HeldEvent} {next : Bool} (h : alternate (e :: es) next) : alternate es next := by
  cases es with
  | nil => trivial
  | cons f es => exact h.2

/-- Behind an event with the acknowledge bit stands one with the other bit, or the next event will have it. -/
theorem alternate_second {e : HeldEvent} {es : List HeldEvent} {next : Bool} (h : alternate (e :: es) next) :
    (es = [] → next ≠ e.bit) ∧ ∀ f fs, es = f :: fs → f.bit ≠ e.bit := by
  cases es with
  | nil => exact ⟨fun _ => Ne.symm h, fun f fs other => nomatch other⟩
  | cons f es =>
    refine ⟨fun other => (nomatch other), fun g gs same => ?_⟩
    obtain ⟨rfl, rfl⟩ := List.cons.inj same
    exact Ne.symm h.1

/-- A module whose first event, if any, has the bit that the part accepts holds none that is accepted already. -/
theorem unaccepted_eq_events {ack : Bool} {m : LampModule} (first : ∀ e es, m.events = e :: es → e.bit ≠ ack) :
    unaccepted ack m = m.events := by
  unfold unaccepted
  cases events : m.events with
  | nil => rfl
  | cons e es => exact if_neg (first e es events)

/-- A press's event goes behind the others, with the bit that was next. -/
theorem alternate_concat {es : List HeldEvent} {e : HeldEvent} (h : alternate es e.bit) : alternate (es ++ [e]) (!e.bit) := by
  induction es with
  | nil => exact fun same => absurd same (by cases e.bit <;> decide)
  | cons f es ih =>
    cases es with
    | nil => exact ⟨h, ih trivial⟩
    | cons g es => exact ⟨h.1, ih h.2⟩

/-- After an acknowledgement the events alternate, and the first, or else the next, has the bit that the part accepts. -/
theorem acknowledge_alternate {ack next : Bool} {es : List HeldEvent} (alt : alternate es next) (none : es = [] → next ≠ ack) :
    alternate (acknowledge ack es) next ∧ (acknowledge ack es = [] → next ≠ ack) ∧
    ∀ f fs, acknowledge ack es = f :: fs → f.bit ≠ ack := by
  cases es with
  | nil => exact ⟨trivial, fun _ => none rfl, fun f fs other => nomatch other⟩
  | cons e es =>
    by_cases acked : e.bit = ack
    · subst acked
      rw [acknowledge, if_pos rfl]
      exact ⟨alternate_tail alt, alternate_second alt⟩
    · rw [acknowledge, if_neg acked]
      refine ⟨alt, fun other => (nomatch other), fun f fs same => ?_⟩
      obtain ⟨rfl, rfl⟩ := List.cons.inj same
      exact acked

theorem mem_acknowledge {ack : Bool} {es : List HeldEvent} {e : HeldEvent} (h : e ∈ acknowledge ack es) : e ∈ es := by
  cases es with
  | nil => exact h
  | cons f es =>
    by_cases acked : f.bit = ack
    · rw [acknowledge, if_pos acked] at h
      exact List.mem_cons_of_mem f h
    · rwa [acknowledge, if_neg acked] at h

/-! ### A visit at the module -/

section Lamp

variable {ack : Bool} {m : LampModule} (h : inStep ack m) (v : View) (token : Fin 8) (now : Nat)
include h

/-- A LAMP frame with the part's acknowledge bit keeps part and module in step, and leaves first an event to accept. -/
theorem takeLamp_inStep : inStep ack (m.takeLamp v ack token.val now) ∧
    ∀ e es, (m.takeLamp v ack token.val now).events = e :: es → e.bit ≠ ack := by
  obtain ⟨bits, fits, -⟩ := h
  have after : alternate (acknowledge ack m.events) (if m.takeBit then !ack else m.nextBit) ∧
      (acknowledge ack m.events = [] → (if m.takeBit then !ack else m.nextBit) ≠ ack) ∧
      ∀ f fs, acknowledge ack m.events = f :: fs → f.bit ≠ ack := by
    by_cases silence : m.takeBit = true
    · rw [if_pos silence] at bits
      rw [bits.2, if_pos silence]
      exact acknowledge_alternate trivial fun _ => by cases ack <;> decide
    · rw [if_neg silence] at bits
      rw [if_neg silence]
      exact acknowledge_alternate bits.1 bits.2
  obtain ⟨alt, none, first⟩ := after
  refine ⟨⟨?_, fun e held => fits e (mem_acknowledge held), fun t same => ?_⟩, first⟩
  · exact (if_neg Bool.false_ne_true).mpr ⟨alt, none⟩
  · exact Option.some.inj same ▸ token.isLt

/-- The part accepts the first event: the module is in step with its bit, and the others are left. -/
theorem inStep_accepted {e : HeldEvent} {es : List HeldEvent} (steady : m.takeBit = false) (first : m.events = e :: es) :
    inStep e.bit m ∧ unaccepted e.bit m = es := by
  obtain ⟨bits, fits, tokens⟩ := h
  rw [if_neg (by rw [steady]; exact Bool.false_ne_true)] at bits
  refine ⟨⟨?_, fits, tokens⟩, ?_⟩
  · rw [if_neg (by rw [steady]; exact Bool.false_ne_true)]
    exact ⟨bits.1, fun none => nomatch none.symm.trans first⟩
  · rw [unaccepted, first]
    exact if_pos rfl

end Lamp

/-! ### Presses and silences -/

/-- A press is ignored, or its event goes behind the others (R92, R124, R125). -/
theorem LampModule.press_cases (m : LampModule) (key : Key) (now : Nat) :
    m.press key now = m ∨ m.silent = false ∧ ∃ token, m.token = some token ∧ m.press key now = { m with
      events := m.events ++ [{ bit := m.nextBit, key := key, token := token, since := ticks4 (now - m.tokenSince), pressed := now }],
      nextBit := !m.nextBit } := by
  unfold LampModule.press
  split
  next token powered address shown =>
    split
    next => exact .inl rfl
    next heard =>
      simp only [Bool.or_eq_true, not_or] at heard
      exact .inr ⟨Bool.eq_false_iff.2 heard.1.1, token, shown, rfl⟩
  next => exact .inl rfl

theorem press_inStep {ack : Bool} {m : LampModule} (h : inStep ack m) (key : Key) (now : Nat) :
    inStep ack (m.press key now) ∧
    unaccepted ack (m.press key now) = unaccepted ack m ++ (m.press key now).events.drop m.events.length := by
  obtain ignored | ⟨heard, token, shown, recorded⟩ := m.press_cases key now
  · rw [ignored, List.drop_length, List.append_nil]
    exact ⟨h, rfl⟩
  · obtain ⟨bits, fits, tokens⟩ := h
    have steady : ¬ m.takeBit = true := fun silence => by
      rw [if_pos silence, heard] at bits
      exact absurd bits.1 Bool.false_ne_true
    rw [if_neg steady] at bits
    rw [recorded]
    refine ⟨⟨?_, fun e held => ?_, tokens⟩, ?_⟩
    · refine (if_neg steady).mpr ⟨alternate_concat bits.1, fun none => ?_⟩
      exact absurd none (by simp)
    · obtain old | new := List.mem_append.1 held
      · exact fits e old
      · rw [List.mem_singleton.1 new]
        exact ⟨tokens token shown, lt_of_le_of_lt (min_le_left 255 _) (by decide)⟩
    · simp only [List.drop_left]
      cases events : m.events with
      | nil =>
        simp only [unaccepted, events, List.nil_append]
        exact if_neg (bits.2 events)
      | cons e es =>
        simp only [unaccepted, events, List.cons_append]
        split
        · rfl
        · rfl

theorem fallSilent_inStep {ack : Bool} {m : LampModule} (h : inStep ack m) (now : Nat) : inStep ack (m.fallSilent now) := by
  unfold LampModule.fallSilent
  split
  · exact ⟨(if_pos rfl).mpr ⟨rfl, rfl⟩, fun e held => absurd held List.not_mem_nil, h.2.2⟩
  · exact h

/-- A module without events that takes an address begins with bit 0, or after its silence with the bit that the LAMP frame gives. -/
theorem takeAddress_inStep {m : LampModule} (n : Nat) (free : m.address = none) (asserted : m.input = .asserted) (empty : m.events = [])
    (silence : m.takeBit = true → m.silent = true) (tokens : ∀ token, m.token = some token → token < 8) :
    (m.takeAddress n).2 = some (m.identityBytes 0xA1#8 n) ∧ (m.takeAddress n).1.address = some n ∧ inStep true (m.takeAddress n).1 := by
  have taken : m.takeAddress n = ({ m with address := some n, nextBit := false }, some (m.identityBytes 0xA1#8 n)) := by
    rw [LampModule.takeAddress, free, if_neg (by simp), if_pos ⟨rfl, asserted⟩]
  rw [taken]
  refine ⟨rfl, rfl, ?_, fun e held => ?_, tokens⟩
  · change if m.takeBit = true then m.silent = true ∧ m.events = [] else alternate m.events false ∧ (m.events = [] → false ≠ true)
    split
    next waits => exact ⟨silence waits, empty⟩
    next =>
      rw [empty]
      exact ⟨trivial, fun _ => Bool.false_ne_true⟩
  · rw [show ({ m with address := some n, nextBit := false } : LampModule).events = m.events from rfl, empty] at held
    exact absurd held List.not_mem_nil

/-! ### The part's side -/

theorem exec_keysAnswer_reads {s : State} {b : Fin 4} {i : Fin 62} {second : Bool} {frame : List PairByte} {f : Option KeyEvent}
    (visit : (s.bus b).exchange = .visit i second) (reads : (goodBytes frame).bind (readKeys (i.val + 1)) = some f) :
    exec (.keysAnswer b frame) s = .next (s.visitAnswered { bus := b, idx := i } f) := by
  change execKeysAnswer b frame s = _
  rw [execKeysAnswer, visit]
  simp only [reads]

/-- An event with the other bit is accepted and resolved (R123). -/
theorem takeKeys_accepts (u : State) (l : Loc) {e : KeyEvent} (other : e.bit ≠ (u.loc l).ack) :
    u.takeKeys l (some e) = (u.setLoc l { u.loc l with ack := e.bit }).resolvePress l e := if_neg other

theorem ack_resolvePress (u : State) (l m : Loc) (e : KeyEvent) : ((u.resolvePress l e).loc m).ack = (u.loc m).ack :=
  (State.LocsAlike.of_press (State.resolvePress_steps u l e) m).ack

theorem ack_walkTaken (s : State) (b : Fin 4) (i : Fin 62) (id : Identity) :
    ((s.walkTaken b i id).loc { bus := b, idx := i }).ack = true := by
  unfold State.walkTaken
  simp only []
  split
  · exact ack_classifyAt _ _ _
  · exact ack_classifyAt _ _ _

theorem ack_probeTaken (s : State) (b : Fin 4) (i : Fin 62) (id : Identity) :
    ((s.probeTaken b i id).loc { bus := b, idx := i }).ack = true := by
  have kept := State.Acks.afterProbe (b := b) (s := (s.goodAnswer b).classifyAt { bus := b, idx := i } id true)
    (a := fun m => (((s.goodAnswer b).classifyAt { bus := b, idx := i } id true).loc m).ack) fun _ => rfl
  exact (kept _).trans (ack_classifyAt _ _ _)

section Visit

variable {s : State} {b : Fin 4} {i : Fin 62} {second : Bool} (visit : (s.bus b).exchange = .visit i second) (now : Nat)
include visit

/-- A KEYS answer without an event ends the visit and leaves the acknowledge bit. -/
theorem exec_quiet : ∃ t, exec (.keysAnswer b (cleanBytes (keysBytes (i.val + 1) none now))) s = .next t ∧
    t = goOn ((spoken s b).setLoc { bus := b, idx := i } { s.loc { bus := b, idx := i } with
      miss := 0
      state := if (s.loc { bus := b, idx := i }).state = .suspect then .present else (s.loc { bus := b, idx := i }).state }) b i ∧
    (t.loc { bus := b, idx := i }).ack = (s.loc { bus := b, idx := i }).ack := by
  have read := exec_keysAnswer_reads visit (frame := cleanBytes (keysBytes (i.val + 1) none now)) (f := none) (by
    rw [bind_clean]
    exact readKeys_quiet (by omega) now)
  rw [State.visitAnswered_eq, ← goOn_eq] at read
  refine ⟨_, read, rfl, (ack_goOn _ b i _).trans ?_⟩
  simp [State.takeKeys]

/-- A KEYS answer with an event to accept ends the visit, has the event resolved, and leaves its bit. -/
theorem exec_pressed {e : HeldEvent} (token : e.token < 256) (since : e.since < 256)
    (other : e.bit ≠ (s.loc { bus := b, idx := i }).ack) (u : State)
    (counted : u = (spoken s b).setLoc { bus := b, idx := i } { s.loc { bus := b, idx := i } with
      miss := 0
      state := if (s.loc { bus := b, idx := i }).state = .suspect then .present else (s.loc { bus := b, idx := i }).state }) :
    ∃ t, exec (.keysAnswer b (cleanBytes (keysBytes (i.val + 1) (some e) now))) s = .next t ∧
      t = goOn ((u.setLoc { bus := b, idx := i } { u.loc { bus := b, idx := i } with ack := e.bit }).resolvePress { bus := b, idx := i }
        (e.report now)) b i ∧
      (t.loc { bus := b, idx := i }).ack = e.bit := by
  have read := exec_keysAnswer_reads visit (frame := cleanBytes (keysBytes (i.val + 1) (some e) now)) (f := some (e.report now)) (by
    rw [bind_clean]
    exact readKeys_event (by omega) e now token since)
  have ack : (u.loc { bus := b, idx := i }).ack = (s.loc { bus := b, idx := i }).ack := by simp [counted]
  rw [State.visitAnswered_eq, ← goOn_eq, ← spoken_eq, ← counted, takeKeys_accepts u _ (ack.symm ▸ other)] at read
  refine ⟨_, read, rfl, (ack_goOn _ b i _).trans ((ack_resolvePress _ _ _ _).trans ?_)⟩
  rw [State.loc_setLoc, if_pos rfl]
  rfl

end Visit

/-- Settles O53: an event is accepted when its bit is not the acknowledge bit, and the bits of the module's events alternate. -/
theorem keyEventsAreAcceptedOnceInOrder : Obligations.KeyEventsAreAcceptedOnceInOrder := by
  refine ⟨?_, fun ack m key now h => ⟨(press_inStep h key now).1, fallSilent_inStep h now, (press_inStep h key now).2⟩, ?_⟩
  · intro s b i second m now face scale steady phase token l ack lamp r u visit scaled powered mine h
    have received : r = _ := receive_lamp powered mine (by omega) scaled face steady phase ack token now
    obtain ⟨kept, first⟩ := takeLamp_inStep h { face := face, scale := scale, lit := litAt (i.val + 1) steady phase } token now
    have events := acknowledge_eq ack m
    rw [received]
    refine ⟨kept, events, ?_, ⟨_, ?_, ack_visitUnanswered s b i second l⟩, _, rfl, fun none => ?_, fun e es left => ?_⟩
    · exact (unaccepted_eq_events first).trans events
    · change execKeysWindowExpiry b s = _
      rw [execKeysWindowExpiry, visit]
    · rw [events, none]
      exact exec_quiet visit now
    · rw [events, left]
      have held := events.trans left
      have mem : e ∈ acknowledge ack m.events := held ▸ List.mem_cons_self
      obtain ⟨fits, bound⟩ := kept.2.1 e mem
      obtain ⟨t, ran, same, acked⟩ := exec_pressed visit now (by omega) bound (first e es held) u rfl
      exact ⟨t, ran, same, acked, inStep_accepted kept rfl held⟩
  · intro s b i second m now r exchange powered free asserted empty silence tokens
    have received : r = m.takeAddress (i.val + 1) := receive_take powered (by omega) now
    obtain ⟨answer, address, step⟩ := takeAddress_inStep (i.val + 1) free asserted empty silence tokens
    rw [received]
    have reads : (goodBytes (cleanBytes (m.identityBytes 0xA1#8 (i.val + 1)))).bind (readTaken (i.val + 1)) = some m.identity := by
      rw [bind_clean]
      exact readIdentity_identityBytes m 0xA1#8 (by omega)
    refine ⟨step, address, m.identityBytes 0xA1#8 (i.val + 1), ?_⟩
    obtain walk | probe := exchange
    · exact ⟨_, answer, exec_takenAnswer_reads reads (.inl ⟨second, walk, rfl⟩), ack_walkTaken _ _ _ _⟩
    · exact ⟨_, answer, exec_takenAnswer_reads reads (.inr ⟨second, probe, rfl⟩), ack_probeTaken _ _ _ _⟩

end Sys2Proof.Machine
end
